-- ==== Sys2Proof/Word.lean ====
section
/-! DEFINITION. The two word sizes of the block: bytes and command or response words. -/

namespace Sys2Proof

/-- A byte: a control byte, a counter or a byte operand (00_scope.md R5, `W = 8`). -/
abbrev Byte := BitVec 8

/-- A command or response word (00_scope.md R5, `CMD_WIDTH` and `RESP_WIDTH`). -/
abbrev Word := BitVec 16

end Sys2Proof
end

