-- ==== Sys2Proof/Syntax.lean ====
section
/-! DEFINITION. The seven commands (30_encoding.md R38), the fields of a command word (R37) and the two
pseudo-instructions (R44). -/

namespace Sys2Proof

/-- A command, one constructor per row of the opcode map (30_encoding.md R38). Each operand's type holds exactly the
values R37 admits. -/
inductive Instr where
  /-- CHECK: validate a received control byte (40_check_frame.md R48). -/
  | check (frame : Byte)
  /-- NEXT_SEND: the next I-frame control byte; the operand is `F`, the first-frame bit (42_frame_generation.md R67). -/
  | nextSend (first : Bool)
  /-- GET_RR: a Receiver Ready control byte (42_frame_generation.md R70). -/
  | getRR
  /-- GET_KA: a keep-alive control byte (42_frame_generation.md R72). -/
  | getKA
  /-- RESET: the initial values of both counters (43_sequence_reset.md R76). -/
  | reset
  /-- INC_RR: the receiver-sequence increment of a byte (41_sequence_increment.md R61). -/
  | incRR (value : Byte)
  /-- INC_SS: the send-sequence increment of a byte (41_sequence_increment.md R64). -/
  | incSS (value : Byte)
deriving DecidableEq, Repr

/-- The mnemonic of a command (00_scope.md R9). -/
def Instr.mnemonic : Instr → String
  | .check _ => "CHECK"
  | .nextSend _ => "NEXT_SEND"
  | .getRR => "GET_RR"
  | .getKA => "GET_KA"
  | .reset => "RESET"
  | .incRR _ => "INC_RR"
  | .incSS _ => "INC_SS"

/-- The four fields of a command word (30_encoding.md R37), any of which may hold any bits. -/
structure CommandFields where
  /-- `OP`, bits 15 to 12. -/
  op : BitVec 4
  /-- `Z`, bits 11 to 9, reserved. -/
  z : BitVec 3
  /-- `F`, bit 8. -/
  f : BitVec 1
  /-- `D`, bits 7 to 0. -/
  d : Byte
deriving DecidableEq, Repr

/-- The two pseudo-instructions (30_encoding.md R44). -/
inductive Pseudo where
  /-- NEXT_SEND_FIRST. -/
  | nextSendFirst
  /-- NEXT_SEND_CONT. -/
  | nextSendCont
deriving DecidableEq, Repr

/-- What a pseudo-instruction stands for (30_encoding.md R44). -/
def Pseudo.expand : Pseudo → Instr
  | .nextSendFirst => .nextSend true
  | .nextSendCont => .nextSend false

end Sys2Proof
end

