-- ==== Sys2Proof/WellFormed.lean ====
section
/-! DEFINITION. When the fields of a command word are well formed: the three cases of 30_encoding.md R39, each as the
check that rules it out. An `Instr` needs no check: its operand types hold exactly the values R37 admits. The decoder is
written separately, from the match and mask of R38, and the two are to be compared. -/

namespace Sys2Proof

namespace CommandFields

/-- Case 1 of R39 does not hold: `OP` is one of `0x1` to `0x7`. -/
def opAssigned (c : CommandFields) : Bool :=
  c.op != 0 && decide (c.op.toNat < 8)

/-- Case 2 of R39 does not hold: `Z` is 0. -/
def zClear (c : CommandFields) : Bool :=
  c.z == 0

/-- `F` is 0 unless the command is NEXT_SEND (`OP = 0x2`), the one row that leaves `F` free (R37). -/
def fAllowed (c : CommandFields) : Bool :=
  c.f == 0 || c.op == 0x2

/-- `D` is 0 unless the command is CHECK, INC_RR or INC_SS (`OP` `0x1`, `0x6`, `0x7`), the rows with a byte operand
(R37). -/
def dAllowed (c : CommandFields) : Bool :=
  c.d == 0 || c.op == 0x1 || c.op == 0x6 || c.op == 0x7

/-- The fields are those of a legal command word: no case of R39 holds. -/
def wellFormed (c : CommandFields) : Bool :=
  c.opAssigned && c.zClear && c.fAllowed && c.dAllowed

end CommandFields

end Sys2Proof
end

