-- ==== Sys2Proof/Decode.lean ====
section
/-! DEFINITION. The opcode map of 30_encoding.md R38 as a table, the decoder that reads it, the reasons a word is illegal
(R39), and the encoder. -/

namespace Sys2Proof

/-- The `OP`, `Z`, `F` and `D` fields of a word (30_encoding.md R37). -/
def commandFields (w : Word) : CommandFields where
  op := w.extractLsb' 12 4
  z := w.extractLsb' 9 3
  f := w.extractLsb' 8 1
  d := w.extractLsb' 0 8

/-- The byte operand `D` of a word (30_encoding.md R37). -/
def byteOperand (w : Word) : Byte :=
  (commandFields w).d

/-- The first-frame operand `F` of a word (30_encoding.md R37). -/
def firstOperand (w : Word) : Bool :=
  (commandFields w).f == 1

/-- One row of the opcode map (30_encoding.md R38): a word `w` selects it when `w & mask == match`. -/
structure OpcodeRow where
  /-- The mnemonic of the row. -/
  mnemonic : String
  /-- The row's `match`. -/
  pattern : Word
  /-- The row's `mask`. -/
  mask : Word
  /-- The command a word of this row stands for. -/
  build : Word → Instr

/-- The opcode map, row for row (30_encoding.md R38). -/
def opcodeRows : List OpcodeRow :=
  [ ⟨"CHECK", 0x1000, 0xFF00, fun w => .check (byteOperand w)⟩,
    ⟨"NEXT_SEND", 0x2000, 0xFEFF, fun w => .nextSend (firstOperand w)⟩,
    ⟨"GET_RR", 0x3000, 0xFFFF, fun _ => .getRR⟩,
    ⟨"GET_KA", 0x4000, 0xFFFF, fun _ => .getKA⟩,
    ⟨"RESET", 0x5000, 0xFFFF, fun _ => .reset⟩,
    ⟨"INC_RR", 0x6000, 0xFF00, fun w => .incRR (byteOperand w)⟩,
    ⟨"INC_SS", 0x7000, 0xFF00, fun w => .incSS (byteOperand w)⟩ ]

/-- The word selects the row (30_encoding.md R38). -/
def rowSelects (r : OpcodeRow) (w : Word) : Bool :=
  (w &&& r.mask) == r.pattern

/-- Why a word is illegal: the three cases of 30_encoding.md R39, the first that holds in the order R39 lists them.
The response is the same for each (60_exceptions.md R80). DESIGN CHOICE (log entry 9): the names. -/
inductive IllegalReason where
  /-- Case 1: `OP` is `0x0` or `0x8` to `0xF`. -/
  | unassignedOpcode
  /-- Case 2: `Z` is not 0. -/
  | reservedNotZero
  /-- Case 3: `F` is 1 or `D` is not 0 in a command whose row fixes it to 0. -/
  | fixedFieldNotZero
deriving DecidableEq, Repr

/-- What the decoder makes of a word: a command, or an illegal word with its reason. -/
inductive Decoded where
  /-- A legal word. -/
  | instr (i : Instr)
  /-- An illegal word (30_encoding.md R39). -/
  | illegal (why : IllegalReason)
deriving DecidableEq, Repr

/-- The case of 30_encoding.md R39 an illegal word falls under. -/
def illegalReason (w : Word) : IllegalReason :=
  if !(commandFields w).opAssigned then .unassignedOpcode
  else if !(commandFields w).zClear then .reservedNotZero
  else .fixedFieldNotZero

/-- The decoder: total on words, it takes the row the word selects (30_encoding.md R38) or names the word illegal (R39). -/
def decode (w : Word) : Decoded :=
  match opcodeRows.find? (fun r => rowSelects r w) with
  | some r => .instr (r.build w)
  | none => .illegal (illegalReason w)

/-- A field put in a word with its bit 0 at bit `place` of the word (00_scope.md R6). -/
def fieldAt (place : Nat) {n : Nat} (v : BitVec n) : Word :=
  v.setWidth 16 <<< place

/-- The word a row's `OP` makes with the fields `F` and `D`, `Z` being 0 (30_encoding.md R37). -/
def commandWord (op : BitVec 4) (f : BitVec 1) (d : Byte) : Word :=
  fieldAt 12 op ||| fieldAt 8 f ||| fieldAt 0 d

/-- The encoder: the word of a command (30_encoding.md R37 and R38). -/
def encode : Instr → Word
  | .check frame => commandWord 0x1 0 frame
  | .nextSend first => commandWord 0x2 (BitVec.ofBool first) 0
  | .getRR => commandWord 0x3 0 0
  | .getKA => commandWord 0x4 0 0
  | .reset => commandWord 0x5 0 0
  | .incRR value => commandWord 0x6 0 value
  | .incSS value => commandWord 0x7 0 value

/-- The command word whose low `nbits` bits are those of `w`, its other bits 0 (every command is one 16-bit word,
30_encoding.md R37). -/
def tableWord (nbits w : Nat) : Word :=
  BitVec.ofNat 16 (w % 2 ^ nbits)

/-- What the decoder reads from a word given as the opcode table numbers its bits. -/
def decodeTableWord (nbits w : Nat) : Option Instr :=
  match decode (tableWord nbits w) with
  | .instr i => some i
  | .illegal _ => none

end Sys2Proof
end

