-- ==== Sys2Proof/Machine/Operands.lean ====
section
/-! DEFINITION. The control-byte operand: its frame patterns (30_encoding.md R32 to R35), the frame-type decoder
(40_check_frame.md R45) and the classifier (R46). The other operand forms, the value byte of INC_RR and INC_SS and the
first-frame bit of NEXT_SEND, are used as they stand. -/

namespace Sys2Proof.Machine

/-- The three frame types (40_check_frame.md R45). -/
inductive FrameType where
  | u
  | s
  | i
deriving DecidableEq, Repr

/-- The verdict of the decoder on a received byte (40_check_frame.md R46). -/
inductive FrameClass where
  | uiNotify
  | uReset
  | s
  | i
  | uOther
deriving DecidableEq, Repr

/-- `UI_NOTIFY_BYTE` (00_scope.md R5). -/
def uiNotifyByte : Byte := 0x13

/-- `U_RESET_SET` (00_scope.md R5). -/
def uResetSet : List Byte := [0x73, 0x93]

/-- Bits 1 and 0 of a control byte, which give its frame pattern (30_encoding.md R32 to R34). -/
def typeBits (b : Byte) : BitVec 2 :=
  b.extractLsb' 0 2

/-- `frameType(b)` (40_check_frame.md R45). -/
def frameType (b : Byte) : FrameType :=
  if typeBits b == 0b11 then .u
  else if typeBits b == 0b01 then .s
  else .i

/-- `classify(b)`, the tests in the order of 40_check_frame.md R46. -/
def classify (b : Byte) : FrameClass :=
  if b == uiNotifyByte then .uiNotify
  else if frameType b == .u && uResetSet.contains b then .uReset
  else if frameType b == .s then .s
  else if frameType b == .i then .i
  else .uOther

end Sys2Proof.Machine
end

