-- ==== Sys2Proof/Machine/Flags.lean ====
section
/-! DEFINITION. The response word and its flag-like fields (30_encoding.md R40 and R41). The block has no flags register
(10_state.md R19): these are computed for each response and not kept. -/

namespace Sys2Proof.Machine

/-- The fields of a response (30_encoding.md R40); a field a command does not use keeps the value 0 given here. -/
structure Response where
  /-- `ILL`: the command word was illegal. -/
  ill : Bool := false
  /-- `CLS`: the class of the byte, for CHECK only. -/
  cls : Option FrameClass := none
  /-- `MIS`: a sequence mismatch was detected. -/
  mis : Bool := false
  /-- `ACC`: the source's boolean result of CHECK. -/
  acc : Bool := false
  /-- `R`: the result byte (30_encoding.md R42). -/
  r : Byte := 0
deriving DecidableEq, Repr

/-- The `CLS` code (30_encoding.md R41). -/
def classCode : Option FrameClass → BitVec 3
  | none => 0b000
  | some .uiNotify => 0b001
  | some .uReset => 0b010
  | some .s => 0b011
  | some .i => 0b100
  | some .uOther => 0b101

/-- The response word: `ILL[15] CLS[14:12] Z[11:10] MIS[9] ACC[8] R[7:0]`, with `Z = 0` (30_encoding.md R40). -/
def packResponse (a : Response) : Word :=
  fieldAt 15 (BitVec.ofBool a.ill) ||| fieldAt 12 (classCode a.cls) ||| fieldAt 9 (BitVec.ofBool a.mis) |||
    fieldAt 8 (BitVec.ofBool a.acc) ||| fieldAt 0 a.r

/-- The response to an illegal word, `0x8000` (60_exceptions.md R80). -/
def illegalResponse : Response := { ill := true }

/-- The response of a CHECK that accepts without comparing the byte: `MIS = 0`, `ACC = 1`, `R = 0x00`
(40_check_frame.md R50 to R52 and the ACCEPT variant of R56). -/
def acceptResponse (c : FrameClass) : Response := { cls := some c, acc := true }

/-- The response of every command but CHECK: only `R` (30_encoding.md R40). -/
def resultResponse (r : Byte) : Response := { r := r }

/-- `ILL` of a response word (30_encoding.md R40). -/
def respIll (w : Word) : Bool := w[15]

/-- `CLS` of a response word (30_encoding.md R40). -/
def respCls (w : Word) : BitVec 3 := w.extractLsb' 12 3

/-- The reserved bits 11 and 10 of a response word (30_encoding.md R40). -/
def respZ (w : Word) : BitVec 2 := w.extractLsb' 10 2

/-- `MIS` of a response word (30_encoding.md R40). -/
def respMis (w : Word) : Bool := w[9]

/-- `ACC` of a response word (30_encoding.md R40). -/
def respAcc (w : Word) : Bool := w[8]

/-- `R` of a response word (30_encoding.md R40). -/
def respR (w : Word) : Byte := w.extractLsb' 0 8

end Sys2Proof.Machine
end

