-- ==== Sys2Proof/Machine/Sequence.lean ====
section
/-! DEFINITION. The two pure sequence-increment functions (41_sequence_increment.md R59 and R62) and the expected byte
built on them (40_check_frame.md R47). `+` is 8-bit wrapping addition, as both rules allow. -/

namespace Sys2Proof.Machine

/-- `incRR`, the receiver-sequence increment (41_sequence_increment.md R59). -/
def incRR (v : Byte) : Byte :=
  ((v + 0x20) ||| 0x10 ||| (v &&& 0x0E)) &&& 0xFF

/-- `incSS`, the send-sequence increment (41_sequence_increment.md R62). -/
def incSS (v : Byte) : Byte :=
  ((v &&& 0xF0) ||| ((v + 0x2) &&& 0x0E)) &&& 0xFF

/-- `expected(SF, RF)`, the byte an inbound I-frame must equal, chosen by the parity of `SF` (40_check_frame.md R47). -/
def expected (sf rf : Byte) : Byte :=
  if sf[0] then incSS rf &&& 0xFF else incRR (incSS rf)

end Sys2Proof.Machine
end

