-- ==== Sys2Proof/Config.lean ====
section
/-! DEFINITION. What is fixed for the life of one instance: the role, and the model parameters of 00_scope.md R5.
Their values stand in Machine/Init.lean. The block has no undefined result (00_scope.md R8), so there is no free value here. -/

namespace Sys2Proof

/-- `ROLE`, fixed at construction (10_state.md R13). -/
inductive Role where
  | client
  | server
deriving DecidableEq, Repr

/-- The 1-bit code of `ROLE`: 0 means Client, 1 means Server (10_state.md R13). -/
def Role.code : Role → BitVec 1
  | .client => 0
  | .server => 1

/-- `U_OTHER_MODE` (00_scope.md R5, 40_check_frame.md R56): what CHECK does with a U_OTHER byte. -/
inductive UOtherMode where
  /-- The normative reading: the byte takes the I-frame branch. -/
  | asIFrame
  /-- The named variant: the byte is accepted with no state change. -/
  | accept
deriving DecidableEq, Repr

/-- `HOST_WORD_ORDER` (00_scope.md R5, 20_memory.md R24): which byte of a word goes first on a byte-wide host bus. -/
inductive WordOrder where
  | lowFirst
  | highFirst
deriving DecidableEq, Repr

/-- The model parameters of 00_scope.md R5 that have more than one value. -/
structure Params where
  /-- `U_OTHER_MODE`. -/
  uOtherMode : UOtherMode
  /-- `CLIENT_SENDER_INIT`. -/
  clientSenderInit : Byte
  /-- `HOST_WORD_ORDER`. -/
  hostWordOrder : WordOrder
deriving DecidableEq, Repr

end Sys2Proof
end

