-- ==== Sys2Proof/Machine/Init.lean ====
section
/-! DEFINITION. The normative values of the model parameters (00_scope.md R5), the construction arguments of the state after
reset, and the role-based initial values of the two counters (10_state.md R16). -/

namespace Sys2Proof

/-- The normative values of 00_scope.md R5. The spec leaves `HOST_WORD_ORDER` open.
DESIGN CHOICE (log entry 10): low byte first; no rule depends on it. -/
def Params.default : Params where
  uOtherMode := .asIFrame
  clientSenderInit := 0x10
  hostWordOrder := .lowFirst

end Sys2Proof

namespace Sys2Proof.Machine

/-- The role of the state after reset. The spec leaves it to the host (70_reset_and_hazards.md R91).
DESIGN CHOICE (log entry 1): Client. -/
def resetRole : Role := .client

/-- The bypass of the state after reset. The spec leaves it to the host (70_reset_and_hazards.md R91).
DESIGN CHOICE (log entry 2): off. -/
def resetSkip : Bool := false

/-- `SERVER_SENDER_INIT` (00_scope.md R5). -/
def serverSenderInit : Byte := 0x1E

/-- `SERVER_RECEIVER_INIT` (00_scope.md R5). -/
def serverReceiverInit : Byte := 0xEE

/-- `CLIENT_RECEIVER_INIT` (00_scope.md R5). -/
def clientReceiverInit : Byte := 0x0E

/-- `initS(role)`, the initial sender counter; the Client's is the parameter `CLIENT_SENDER_INIT` (10_state.md R16). -/
def initS (p : Params) : Role → Byte
  | .server => serverSenderInit
  | .client => p.clientSenderInit

/-- `initR(role)`, the initial receiver counter (10_state.md R16). -/
def initR : Role → Byte
  | .server => serverReceiverInit
  | .client => clientReceiverInit

end Sys2Proof.Machine
end

