-- ==== Sys2Proof/Machine/State.lean ====
section
/-! DEFINITION. The state of one instance (10_state.md R10), with the host's side of its command port; construction
(70_reset_and_hazards.md R91); the reasons a step can stop. The block has no memory and no address space (20_memory.md
R22), so the state holds none. -/

namespace Sys2Proof.Machine

/-- One instance. `sf`, `rf`, `role` and `skip` are the block's whole architectural state (10_state.md R10). `params` holds
the model parameters (00_scope.md R5), which no step writes. `pending` and `responses` are the host's side of the port. -/
structure State where
  /-- `SF`, the sender-frame counter (10_state.md R11). -/
  sf : Byte
  /-- `RF`, the receiver-frame counter (10_state.md R12). -/
  rf : Byte
  /-- `ROLE`, latched at construction (10_state.md R13). -/
  role : Role
  /-- `SKIP`, the validation bypass, latched at construction (10_state.md R14). -/
  skip : Bool
  /-- The model parameters (00_scope.md R5). DESIGN CHOICE (log entry 3): carried here, because a step is a function of the
  state alone. -/
  params : Params
  /-- The command words the host presents, in order, that the block has not taken (20_memory.md R26). DESIGN CHOICE (log
  entry 4): the host's stream, not a queue of the block. -/
  pending : List Word
  /-- The response words given so far, oldest first (70_reset_and_hazards.md R101). DESIGN CHOICE (log entry 5): the host's
  record; the block keeps no response and never reads this (10_state.md R10). -/
  responses : List Word
deriving DecidableEq, Repr

/-- The ways the machine stops with a fault: none. No error of the block is a trap and every command completes
(60_exceptions.md R85, 70_reset_and_hazards.md R102; log entry 18), so there is no constructor and nothing raises one. -/
inductive Fault : Type
deriving DecidableEq, Repr

/-- The ways the model declines an instruction. -/
inductive Refusal where
  /-- An instruction with no meaning yet, refused in its arm of `exec`. Nothing raises it: every command has its meaning.
  Safe. -/
  | notModelled (mnemonic : String)
deriving DecidableEq, Repr

/-- Construction, the power-on reset (70_reset_and_hazards.md R91): the role and the bypass are latched and both counters
take their initial values. Nothing has been presented or answered. -/
def State.construct (p : Params) (role : Role) (skip : Bool) : State where
  sf := initS p role
  rf := initR role
  role := role
  skip := skip
  params := p
  pending := []
  responses := []

/-- The machine right after reset: a newly constructed instance. The spec leaves the two construction arguments to the host.
DESIGN CHOICE (log entries 1 and 2): a Client with the bypass off, the parameters at their defaults. -/
def State.reset : State :=
  State.construct Params.default resetRole resetSkip

end Sys2Proof.Machine
end

