-- ==== Sys2Proof/Machine/Ops.lean ====
section
/-! DEFINITION. The named operations every meaning is made of: writing the counters, resetting them, responding, taking the
next command word and rejecting an illegal one. The block takes no trap and has no memory (60_exceptions.md R85,
20_memory.md R22): its one error outside CHECK, the illegal word, is `rejectWord`. -/

namespace Sys2Proof.Machine

/-- `SF <- v` (00_scope.md R7). -/
def setSF (v : Byte) (s : State) : State := { s with sf := v }

/-- `RF <- v` (00_scope.md R7). -/
def setRF (v : Byte) (s : State) : State := { s with rf := v }

/-- `resetState()`: both counters to their role-based initial values (10_state.md R16). -/
def resetState (s : State) : State :=
  setRF (initR s.role) (setSF (initS s.params s.role) s)

/-- `respond(...)`: the one response word of a command (00_scope.md R7, 30_encoding.md R40), added to the host's record. -/
def respond (a : Response) (s : State) : State :=
  { s with responses := s.responses ++ [packResponse a] }

/-- The host presents one word ahead of whatever it already presents (log entry 7). -/
def presentFirst (w : Word) (s : State) : State := { s with pending := w :: s.pending }

/-- What the block does while no command is presented: it waits, and nothing changes (70_reset_and_hazards.md R92; DEDUCED,
log entry 6). -/
def waitForCommand (s : State) : State := s

/-- The next command word the host presents, and the state once the block has taken it (20_memory.md R26); none while the
host presents nothing. -/
def takeCommand (s : State) : Option (Word × State) :=
  match s.pending with
  | [] => none
  | w :: rest => some (w, { s with pending := rest })

/-- An illegal word: no state of the block is read or written, and the response is `0x8000` (60_exceptions.md R80 and
R84). -/
def rejectWord (s : State) : State :=
  respond illegalResponse s

/-- The comparison of CHECK's I path (40_check_frame.md R48, the last branch): the expected byte `e` is computed from the
counters before any write; a match is accepted (R53), a mismatch is accepted with `MIS = 1` under the bypass (R55) and
rejected with no state change otherwise (R54). `c` is the class the response reports. -/
def validate (c : FrameClass) (b : Byte) (s : State) : State :=
  let e := expected s.sf s.rf
  if b == e then
    respond { cls := some c, mis := false, acc := true, r := e } (setRF b s)
  else if s.skip then
    respond { cls := some c, mis := true, acc := true, r := e } (setRF b s)
  else
    respond { cls := some c, mis := true, acc := false, r := e } s

end Sys2Proof.Machine
end

