-- ==== Sys2Proof/Machine/Check.lean ====
section
/-! DEFINITION. CHECK, the control-byte validator (40_check_frame.md R48). -/

namespace Sys2Proof.Machine

/-- CHECK (40_check_frame.md R48): the byte is classified, then takes the path of its class (R50 to R56). -/
def execCheck (frame : Byte) (s : State) : Host.Outcome State Fault Refusal :=
  match classify frame with
  | .uiNotify => .next (respond (acceptResponse .uiNotify) s)
  | .uReset => .next (respond (acceptResponse .uReset) (resetState s))
  | .s => .next (respond (acceptResponse .s) (setRF (incRR s.rf) s))
  | .i => .next (validate .i frame s)
  | .uOther =>
    match s.params.uOtherMode with
    | .accept => .next (respond (acceptResponse .uOther) s)
    | .asIFrame => .next (validate .uOther frame s)

end Sys2Proof.Machine
end

