-- ==== Sys2Proof/Machine/Generate.lean ====
section
/-! DEFINITION. The control-byte generator: NEXT_SEND, GET_RR and GET_KA (42_frame_generation.md). -/

namespace Sys2Proof.Machine

/-- Write the new `SF` and respond with the bits of it that `mask` keeps: the shared end of the three generating commands
(42_frame_generation.md R67, R70 and R72). -/
def generate (v mask : Byte) (s : State) : State :=
  respond (resultResponse (v &&& mask)) (setSF v s)

/-- NEXT_SEND (42_frame_generation.md R67). -/
def execNextSend (first : Bool) (s : State) : Host.Outcome State Fault Refusal :=
  .next (generate (if first then incRR (incSS s.sf) else incSS s.sf) 0xFF s)

/-- GET_RR (42_frame_generation.md R70). -/
def execGetRR (s : State) : Host.Outcome State Fault Refusal :=
  .next (generate (incRR (s.sf ||| 1)) 0xF1 s)

/-- GET_KA (42_frame_generation.md R72). -/
def execGetKA (s : State) : Host.Outcome State Fault Refusal :=
  .next (generate (s.sf ||| 1) 0xF1 s)

end Sys2Proof.Machine
end

