-- ==== Sys2Proof/Machine/Increment.lean ====
section
/-! DEFINITION. INC_RR and INC_SS, which expose the increment functions and write no state (41_sequence_increment.md). -/

namespace Sys2Proof.Machine

/-- INC_RR (41_sequence_increment.md R61). -/
def execIncRR (value : Byte) (s : State) : Host.Outcome State Fault Refusal :=
  .next (respond (resultResponse (incRR value)) s)

/-- INC_SS (41_sequence_increment.md R64). -/
def execIncSS (value : Byte) (s : State) : Host.Outcome State Fault Refusal :=
  .next (respond (resultResponse (incSS value)) s)

end Sys2Proof.Machine
end

