-- ==== Sys2Proof/Machine/SequenceReset.lean ====
section
/-! DEFINITION. RESET (43_sequence_reset.md). -/

namespace Sys2Proof.Machine

/-- RESET (43_sequence_reset.md R76); the response is `0x0000`. -/
def execReset (s : State) : Host.Outcome State Fault Refusal :=
  .next (respond (resultResponse 0) (resetState s))

end Sys2Proof.Machine
end

