-- ==== Sys2Proof/Machine/Dispatch.lean ====
section
/-! DEFINITION. The dispatch: one arm per command, each one call of its meaning. -/

namespace Sys2Proof.Machine

def exec (i : Instr) (s : State) : Host.Outcome State Fault Refusal :=
  match i with
  | .check frame => Sys2Proof.Machine.execCheck frame s
  | .nextSend first => Sys2Proof.Machine.execNextSend first s
  | .getRR => Sys2Proof.Machine.execGetRR s
  | .getKA => Sys2Proof.Machine.execGetKA s
  | .reset => Sys2Proof.Machine.execReset s
  | .incRR value => Sys2Proof.Machine.execIncRR value s
  | .incSS value => Sys2Proof.Machine.execIncSS value s

end Sys2Proof.Machine
end

