-- ==== Sys2Proof/Machine/Step.lean ====
section
/-! DEFINITION. One step: the block takes the next command word and answers it (20_memory.md R25 and R26). -/

namespace Sys2Proof.Machine

/-- One step. With no command presented the block waits and nothing changes (70_reset_and_hazards.md R92; DEDUCED, log
entry 6). Otherwise the next word is taken and decoded; a legal one is executed, an illegal one is rejected
(60_exceptions.md R84). -/
def step (s : State) : Host.Outcome State Fault Refusal :=
  match takeCommand s with
  | none => .next (waitForCommand s)
  | some (w, s') =>
    match decode w with
    | .instr i => exec i s'
    | .illegal _ => .next (rejectWord s')

/-- The state in which the host presents that one word next, before whatever it already presents (log entry 7). -/
def State.withFetchWord (s : State) (nbits w : Nat) : State :=
  presentFirst (tableWord nbits w) s

end Sys2Proof.Machine
end

