-- ==== Sys2Proof/Machine/Assembler.lean ====
section
/-! DEFINITION. The text of a command (30_encoding.md R43 and R44): writing one, and reading one line. Text is a list of
characters. What R43 does not settle is in log entry 17. -/

namespace Sys2Proof.Machine

/-- The sixteen hexadecimal digits, upper case as the spec writes them. -/
def hexDigits : List Char :=
  ['0', '1', '2', '3', '4', '5', '6', '7', '8', '9', 'A', 'B', 'C', 'D', 'E', 'F']

/-- A byte written `0xNN` (30_encoding.md R43). -/
def writeByte (b : Byte) : List Char :=
  ['0', 'x', hexDigits.getD (b.toNat / 16) '0', hexDigits.getD (b.toNat % 16) '0']

/-- The mnemonics as text (00_scope.md R9). -/
def checkText : List Char := ['C', 'H', 'E', 'C', 'K']
def nextSendText : List Char := ['N', 'E', 'X', 'T', '_', 'S', 'E', 'N', 'D']
def getRRText : List Char := ['G', 'E', 'T', '_', 'R', 'R']
def getKAText : List Char := ['G', 'E', 'T', '_', 'K', 'A']
def resetText : List Char := ['R', 'E', 'S', 'E', 'T']
def incRRText : List Char := ['I', 'N', 'C', '_', 'R', 'R']
def incSSText : List Char := ['I', 'N', 'C', '_', 'S', 'S']

/-- The pseudo-instructions as text (30_encoding.md R44). -/
def nextSendFirstText : List Char := nextSendText ++ ['_', 'F', 'I', 'R', 'S', 'T']
def nextSendContText : List Char := nextSendText ++ ['_', 'C', 'O', 'N', 'T']

/-- A command as text: its mnemonic, then its operand where it has one (30_encoding.md R43). -/
def writeInstr : Instr → List Char
  | .check b => checkText ++ [' '] ++ writeByte b
  | .nextSend f => nextSendText ++ [' ', if f then '1' else '0']
  | .getRR => getRRText
  | .getKA => getKAText
  | .reset => resetText
  | .incRR v => incRRText ++ [' '] ++ writeByte v
  | .incSS v => incSSText ++ [' '] ++ writeByte v

/-- What one line holds. -/
inductive AsmLine where
  /-- Only space and comment. -/
  | blank
  /-- One command, a pseudo-instruction already expanded. -/
  | command (i : Instr)
  /-- No line of 30_encoding.md R43 or R44. -/
  | malformed
deriving DecidableEq, Repr

/-- The line without its comment: a `;` starts one, which runs to the end of the line (30_encoding.md R43). -/
def stripComment (line : List Char) : List Char :=
  line.takeWhile (· != ';')

/-- A character that separates words: space or tab. -/
def isSeparator (c : Char) : Bool :=
  c == ' ' || c == '\t'

/-- The word being read put in front of the words read, if there is one. -/
def closeWord (acc : List Char × List (List Char)) : List (List Char) :=
  if acc.1.isEmpty then acc.2 else acc.1 :: acc.2

/-- The words of a line. -/
def splitWords (line : List Char) : List (List Char) :=
  closeWord (line.foldr (fun c acc => if isSeparator c then ([], closeWord acc) else (c :: acc.1, acc.2)) ([], []))

/-- The value of a decimal digit. -/
def decimalDigit (c : Char) : Option Nat :=
  if 48 ≤ c.toNat ∧ c.toNat ≤ 57 then some (c.toNat - 48) else none

/-- The value of a hexadecimal digit, of either case. -/
def hexDigit (c : Char) : Option Nat :=
  if 48 ≤ c.toNat ∧ c.toNat ≤ 57 then some (c.toNat - 48)
  else if 65 ≤ c.toNat ∧ c.toNat ≤ 70 then some (c.toNat - 55)
  else if 97 ≤ c.toNat ∧ c.toNat ≤ 102 then some (c.toNat - 87)
  else none

/-- The value of a run of decimal digits, continuing from `n`. -/
def readDecimal (n : Nat) : List Char → Option Nat
  | [] => some n
  | c :: rest =>
    match decimalDigit c with
    | some d => readDecimal (10 * n + d) rest
    | none => none

/-- A number: `0xNN` or decimal (30_encoding.md R43). -/
def readNumber : List Char → Option Nat
  | [] => none
  | ['0', 'x', a, b] =>
    match hexDigit a, hexDigit b with
    | some h, some l => some (16 * h + l)
    | _, _ => none
  | cs => readDecimal 0 cs

/-- A byte operand, a literal 0 to 255 (30_encoding.md R43). -/
def readByte (cs : List Char) : Option Byte :=
  match readNumber cs with
  | some n => if n < 256 then some (BitVec.ofNat 8 n) else none
  | none => none

/-- The operand of NEXT_SEND, 0 or 1 (30_encoding.md R43). DESIGN CHOICE, safe (log entry 17): R43 gives no spelling of
it, and it is read in those of a byte operand, `0x00` and `0x01` among them. -/
def readFirst (cs : List Char) : Option Bool :=
  match readNumber cs with
  | some 0 => some false
  | some 1 => some true
  | _ => none

/-- A mnemonic with no operand. -/
def readPlain (m : List Char) : AsmLine :=
  if m == getRRText then .command .getRR
  else if m == getKAText then .command .getKA
  else if m == resetText then .command .reset
  else if m == nextSendFirstText then .command (Pseudo.expand .nextSendFirst)
  else if m == nextSendContText then .command (Pseudo.expand .nextSendCont)
  else .malformed

/-- A command whose operand is a byte, if the operand reads as one. -/
def byteCommand (make : Byte → Instr) (operand : List Char) : AsmLine :=
  match readByte operand with
  | some b => .command (make b)
  | none => .malformed

/-- A mnemonic with one operand. -/
def readWithOperand (m operand : List Char) : AsmLine :=
  if m == checkText then byteCommand .check operand
  else if m == incRRText then byteCommand .incRR operand
  else if m == incSSText then byteCommand .incSS operand
  else if m == nextSendText then
    match readFirst operand with
    | some f => .command (.nextSend f)
    | none => .malformed
  else .malformed

/-- One line of text (30_encoding.md R43 and R44). -/
def readLine (line : List Char) : AsmLine :=
  match splitWords (stripComment line) with
  | [] => .blank
  | [m] => readPlain m
  | [m, operand] => readWithOperand m operand
  | _ => .malformed

end Sys2Proof.Machine
end

