-- ==== Sys2Proof/Machine/Instances.lean ====
section
/-! DEFINITION. Several instances, one per connection, sharing nothing (10_state.md R21, 60_exceptions.md R88). Their number
is the length of the list (`N_INSTANCES`, open). -/

namespace Sys2Proof.Machine

/-- Instance `k` takes one step and the others stand still. An index beyond the list names no instance: nothing happens
(DESIGN CHOICE, log entry 11). -/
def stepAt (k : Nat) (instances : List State) : Host.Outcome (List State) Fault Refusal :=
  match instances[k]? with
  | none => .next instances
  | some s =>
    match step s with
    | .next t => .next (instances.set k t)
    | .fault r => .fault r
    | .refused r => .refused r

end Sys2Proof.Machine
end

