-- ==== Sys2Proof/Machine/Port.lean ====
section
/-! DEFINITION. The host's side of the command port: presenting command words, whole or as two bytes on a byte-wide bus, and
sending a response word as two bytes (20_memory.md R24 and R26). -/

namespace Sys2Proof.Machine

/-- The host presents more command words, after those it already presents (20_memory.md R26). -/
def present (ws : List Word) (s : State) : State :=
  { s with pending := s.pending ++ ws }

/-- The two bytes of a word in the order they go over a byte-wide bus (20_memory.md R24). -/
def wordToBytes (o : WordOrder) (w : Word) : Byte × Byte :=
  let lo : Byte := w.extractLsb' 0 8
  let hi : Byte := w.extractLsb' 8 8
  match o with
  | .lowFirst => (lo, hi)
  | .highFirst => (hi, lo)

/-- The word that two bytes over a byte-wide bus carry, the first to go given first (20_memory.md R24). -/
def wordOfBytes (o : WordOrder) (b : Byte × Byte) : Word :=
  match o with
  | .lowFirst => b.2 ++ b.1
  | .highFirst => b.1 ++ b.2

/-- The host presents one command word as two bytes, in the instance's word order. -/
def presentBytes (b : Byte × Byte) (s : State) : State :=
  present [wordOfBytes s.params.hostWordOrder b] s

/-- The responses given so far as bytes, in the instance's word order. -/
def responseBytes (s : State) : List (Byte × Byte) :=
  s.responses.map (wordToBytes s.params.hostWordOrder)

end Sys2Proof.Machine
end

