-- ==== Sys2Proof/Safety.lean ====
section
/-! DEFINITION. The terms claims are stated in: what a response word may look like, the invariants of the counters, when two
instances are in step, and what two states share. -/

namespace Sys2Proof.Machine

/-- A response word of the layout of 30_encoding.md R40 and R41: an illegal-word response is exactly `0x8000`; otherwise
the reserved bits are 0, the class codes `0b110` and `0b111` do not occur, a command other than CHECK shows neither `MIS`
nor `ACC`, and a CHECK with no mismatch is accepted (60_exceptions.md R79). -/
def validResponse (w : Word) : Bool :=
  if respIll w then w == 0x8000
  else respZ w == 0 && respCls w != 0b110 && respCls w != 0b111 &&
    (if respCls w == 0 then !respMis w && !respAcc w else respMis w || respAcc w)

/-- Every response given so far has the layout of 30_encoding.md R40. -/
def ResponsesValid (s : State) : Prop :=
  ∀ w ∈ s.responses, validResponse w = true

/-- Bit 4 of `SF` is set, as is that of the value a reset would write (30_encoding.md R36). -/
def PollBitSet (s : State) : Prop :=
  s.sf[4] = true ∧ s.params.clientSenderInit[4] = true

/-- With the bypass off, `RF` is even: only a bypassed byte can make it odd (70_reset_and_hazards.md R99). -/
def ReceiverEven (s : State) : Prop :=
  s.skip = false → s.rf[0] = false

/-- The two instances are in step: the receiver's `SF` is even and the byte it expects is the one the sender's next
NEXT_SEND 1 returns (40_check_frame.md R47, 42_frame_generation.md R67). -/
def InStep (sender receiver : State) : Prop :=
  receiver.sf[0] = false ∧ expected receiver.sf receiver.rf = incRR (incSS sender.sf)

/-- The two states agree on everything but the host's side of the port. -/
def SameBlock (s t : State) : Prop :=
  t.sf = s.sf ∧ t.rf = s.rf ∧ t.role = s.role ∧ t.skip = s.skip ∧ t.params = s.params

end Sys2Proof.Machine
end

