-- ==== Sys2Proof/Certificates/Slice0/Obligations.lean ====
section
/-! DEFINITION. The statements for the provers. -/

open Sys2Proof Sys2Proof.Machine

/-! ### Encoding -/

/-- Words the spec writes out, each with its command (30_encoding.md section 2, the examples of R48, R61, R64, R67, R70,
R72 and R76). -/
def Obligations.WordsOfTheSpecDecode : Prop :=
  decode 0x1030 = .instr (.check 0x30) ∧ decode 0x2100 = .instr (.nextSend true) ∧
    decode 0x2000 = .instr (.nextSend false) ∧ decode 0x3000 = .instr .getRR ∧ decode 0x4000 = .instr .getKA ∧
    decode 0x5000 = .instr .reset ∧ decode 0x6012 = .instr (.incRR 0x12) ∧ decode 0x7010 = .instr (.incSS 0x10)

/-- 30_encoding.md R38: a word selects the row with `(w & mask) == match`, and the row gives the command and its operand.
That the rows do not overlap is part of this: `decode w` has one value. -/
def Obligations.OpcodeMapSelectsByMatchAndMask : Prop :=
  ∀ w : Word,
    (w &&& 0xFF00 = 0x1000 → decode w = .instr (.check (w.extractLsb' 0 8))) ∧
    (w &&& 0xFEFF = 0x2000 → decode w = .instr (.nextSend w[8])) ∧
    (w &&& 0xFFFF = 0x3000 → decode w = .instr .getRR) ∧
    (w &&& 0xFFFF = 0x4000 → decode w = .instr .getKA) ∧
    (w &&& 0xFFFF = 0x5000 → decode w = .instr .reset) ∧
    (w &&& 0xFF00 = 0x6000 → decode w = .instr (.incRR (w.extractLsb' 0 8))) ∧
    (w &&& 0xFF00 = 0x7000 → decode w = .instr (.incSS (w.extractLsb' 0 8)))

/-- Decoding the word of any command gives the command back, every operand at every value (30_encoding.md section 2). -/
def Obligations.DecodeOfEncode : Prop :=
  ∀ i : Instr, decode (encode i) = .instr i

/-- A word that decodes to a command is that command's word: no legal word has a second spelling (30_encoding.md
section 2). -/
def Obligations.EncodeOfDecode : Prop :=
  ∀ (w : Word) (i : Instr), decode w = .instr i → encode i = w

/-- 30_encoding.md R39 and 60_exceptions.md R80: a word is illegal exactly in the three cases of R39, the all-zero word is
illegal, and an illegal word changes no state and is answered `0x8000`. -/
def Obligations.IllegalWordsByThreeCases : Prop :=
  (∀ w : Word,
    (∃ why, decode w = .illegal why) ↔
      (w.extractLsb' 12 4 = 0 ∨ 8 ≤ (w.extractLsb' 12 4).toNat) ∨
      w.extractLsb' 9 3 ≠ 0 ∨
      (w[8] = true ∧ w.extractLsb' 12 4 ≠ 0x2) ∨
      (w.extractLsb' 0 8 ≠ 0 ∧ w.extractLsb' 12 4 ≠ 0x1 ∧ w.extractLsb' 12 4 ≠ 0x6 ∧ w.extractLsb' 12 4 ≠ 0x7)) ∧
  (∃ why, decode 0x0000 = .illegal why) ∧
  (∀ (s : State) (w : Word) (ws : List Word) (why : IllegalReason), s.pending = w :: ws → decode w = .illegal why →
    step s = .next { s with pending := ws, responses := s.responses ++ [0x8000] })

/-! ### The step -/

/-- A step runs the decoded command on the state without its word (20_memory.md section 3). -/
def Obligations.StepRunsDecodedCommand : Prop :=
  ∀ (s : State) (w : Word) (ws : List Word) (i : Instr), s.pending = w :: ws → decode w = .instr i →
    step s = exec i { s with pending := ws }

/-- With no command presented, a step changes nothing. The model's reading (log entry 6, DEDUCED) of "After construction it
waits for the first command word" (70_reset_and_hazards.md section 1). -/
def Obligations.StepWaitsWithNothingPresented : Prop :=
  ∀ s : State, s.pending = [] → step s = .next s

/-- The word of a command put where the next step takes its word runs as that command (30_encoding.md section 2; the form
of `withFetchWord` is the model's, log entry 7). -/
def Obligations.PresentedTableWordRuns : Prop :=
  ∀ (s : State) (i : Instr), step (s.withFetchWord 16 (encode i).toNat) = exec i s

/-- Every command answers a next state with exactly one more response, and leaves the role, the bypass, the parameters and
the later commands alone (10_state.md section 1, 20_memory.md section 3, 60_exceptions.md section 2). -/
def Obligations.CommandsCompleteWithinFrame : Prop :=
  ∀ (i : Instr) (s : State), ∃ (t : State) (w : Word),
    exec i s = .next t ∧ t.role = s.role ∧ t.skip = s.skip ∧ t.params = s.params ∧ t.pending = s.pending ∧
      t.responses = s.responses ++ [w]

/-- Running `n` presented words, legal or not, takes exactly those and gives exactly `n` responses, in order, with no stop
(70_reset_and_hazards.md section 4, 20_memory.md section 3). -/
def Obligations.RunAnswersEveryWord : Prop :=
  ∀ (n : Nat) (s : State), n ≤ s.pending.length → ∃ (t : State) (rs : List Word),
    Host.Core.run core n s = .next t ∧ t.pending = s.pending.drop n ∧ t.responses = s.responses ++ rs ∧ rs.length = n ∧
      t.role = s.role ∧ t.skip = s.skip ∧ t.params = s.params

/-- A step does not look at the commands presented later: more of them change nothing but themselves (20_memory.md
section 3). -/
def Obligations.LaterCommandsAreNotSeen : Prop :=
  ∀ (s : State) (more : List Word), s.pending ≠ [] → ∃ t : State,
    step s = .next t ∧ step { s with pending := s.pending ++ more } = .next { t with pending := t.pending ++ more }

/-- A step does not look at the responses given before: the block keeps no response (10_state.md section 1). -/
def Obligations.EarlierResponsesAreNotRead : Prop :=
  ∀ (s : State) (before : List Word), ∃ (t : State) (new : List Word),
    step s = .next t ∧ t.responses = s.responses ++ new ∧
      step { s with responses := before } = .next { t with responses := before ++ new }

/-! ### Construction and RESET -/

/-- 10_state.md R16: the table of initial values, the default of the Client's, and `resetState`; and construction takes them
with the role and the bypass it is given. -/
def Obligations.InitialValuesByRole : Prop :=
  (∀ p : Params, initS p .server = 0x1E ∧ initR .server = 0xEE ∧ initS p .client = p.clientSenderInit ∧
    initR .client = 0x0E) ∧
  Params.default.clientSenderInit = 0x10 ∧
  (∀ s : State, resetState s = { s with sf := initS s.params s.role, rf := initR s.role }) ∧
  (∀ (p : Params) (role : Role) (skip : Bool), (State.construct p role skip).role = role ∧
    (State.construct p role skip).skip = skip ∧ (State.construct p role skip).sf = initS p role ∧
    (State.construct p role skip).rf = initR role)

/-- The state after reset is a newly constructed Client with the bypass off and the default parameters. The construction
arguments are the model's choice (log entries 1 and 2, DESIGN CHOICE); the counters follow from them
(70_reset_and_hazards.md section 1). -/
def Obligations.ResetStateIsAFreshClient : Prop :=
  State.reset.role = .client ∧ State.reset.skip = false ∧ State.reset.sf = 0x10 ∧ State.reset.rf = 0x0E ∧
    State.reset.params = Params.default ∧ State.reset.pending = [] ∧ State.reset.responses = []

/-- 43_sequence_reset.md R76: RESET writes both initial values and nothing else, whatever the counters were, and responds
`0x0000`; a second RESET leaves the same counters; with the Client value `0x10`, `SF` is even in both roles; its word is
`0x5000`. -/
def Obligations.ResetRestoresCounters : Prop :=
  decode 0x5000 = .instr .reset ∧
  ∀ s : State, ∃ t : State,
    exec .reset s = .next t ∧
      t = { s with sf := initS s.params s.role, rf := initR s.role, responses := s.responses ++ [0x0000] } ∧
      exec .reset t = .next { t with responses := t.responses ++ [0x0000] } ∧
      (s.params.clientSenderInit = 0x10 → t.sf[0] = false)

/-- RESET and CHECK of a U-reset byte leave the counters of construction and differ only in the response
(43_sequence_reset.md, R77, an inference of the spec's own). -/
def Obligations.ResetAndUResetAgree : Prop :=
  ∀ (s : State) (b : Byte), b = 0x73 ∨ b = 0x93 → ∃ t : State,
    exec .reset s = .next { t with responses := s.responses ++ [0x0000] } ∧
      exec (.check b) s = .next { t with responses := s.responses ++ [0x2100] } ∧
      t.sf = (State.construct s.params s.role s.skip).sf ∧ t.rf = (State.construct s.params s.role s.skip).rf

/-- RESET and CHECK of `0x13` are idempotent: repeated, they leave the same state and give the same response (20_memory.md
section 2, the last sentences of R25, an inference of the spec's own). -/
def Obligations.ResetAndNotifyAreIdempotent : Prop :=
  ∀ (s : State) (i : Instr), i = .reset ∨ i = .check 0x13 → ∃ (t : State) (w : Word),
    exec i s = .next t ∧ t.responses = s.responses ++ [w] ∧ exec i t = .next { t with responses := t.responses ++ [w] }

/-! ### CHECK -/

/-- 40_check_frame.md R50: the notify byte is accepted with no state change, response `0x1100`. -/
def Obligations.CheckNotifyByte : Prop :=
  ∀ s : State, exec (.check 0x13) s = .next { s with responses := s.responses ++ [0x1100] }

/-- 40_check_frame.md R51: the two U-reset bytes set both counters to their initial values, the same as RESET, and are
accepted, response `0x2100`. -/
def Obligations.CheckUResetBytes : Prop :=
  ∀ (s : State) (b : Byte), b = 0x73 ∨ b = 0x93 →
    exec (.check b) s =
      .next { s with sf := initS s.params s.role, rf := initR s.role, responses := s.responses ++ [0x2100] }

/-- 40_check_frame.md R52: any byte with low bits `01` advances `RF` by `incRR` and is accepted, response `0x3100`; nothing
else of the byte, nor `SF` nor `SKIP`, has an effect. -/
def Obligations.CheckSFrame : Prop :=
  ∀ (s : State) (b : Byte), b[0] = true → b[1] = false →
    exec (.check b) s = .next { s with rf := incRR s.rf, responses := s.responses ++ [0x3100] }

/-- 40_check_frame.md R53: an I-pattern byte equal to the expected byte goes into `RF`, response `0x4100 | b`. -/
def Obligations.CheckIFrameMatch : Prop :=
  ∀ (s : State) (b : Byte), b[0] = false → b = expected s.sf s.rf →
    exec (.check b) s = .next { s with rf := b, responses := s.responses ++ [0x4100 ||| b.setWidth 16] }

/-- 40_check_frame.md R54: an I-pattern byte other than the expected one, the bypass off, is rejected with no state change,
response `0x4200 | e`. -/
def Obligations.CheckIFrameMismatchRejected : Prop :=
  ∀ (s : State) (b : Byte), b[0] = false → b ≠ expected s.sf s.rf → s.skip = false →
    exec (.check b) s =
      .next { s with responses := s.responses ++ [0x4200 ||| (expected s.sf s.rf).setWidth 16] }

/-- 40_check_frame.md R55: with the bypass on, the mismatching byte goes into `RF` all the same, response `0x4300 | e`. -/
def Obligations.CheckIFrameMismatchBypassed : Prop :=
  ∀ (s : State) (b : Byte), b[0] = false → b ≠ expected s.sf s.rf → s.skip = true →
    exec (.check b) s =
      .next { s with rf := b, responses := s.responses ++ [0x4300 ||| (expected s.sf s.rf).setWidth 16] }

/-- 40_check_frame.md R56: under `AS_I_FRAME`, the default, a U_OTHER byte is rejected with no state change
(`0x5200 | e`) or, under the bypass, goes into `RF`, which it leaves odd (`0x5300 | e`); under `ACCEPT` it is accepted with
no state change (`0x5100`). That it never matches is the spec's own inference: see `ExpectedByteFields`. -/
def Obligations.CheckUOtherByte : Prop :=
  Params.default.uOtherMode = .asIFrame ∧
  ∀ (s : State) (b : Byte), b[0] = true → b[1] = true → b ≠ 0x13 → b ≠ 0x73 → b ≠ 0x93 →
    exec (.check b) s =
      (match s.params.uOtherMode, s.skip with
      | .asIFrame, false => .next { s with responses := s.responses ++ [0x5200 ||| (expected s.sf s.rf).setWidth 16] }
      | .asIFrame, true =>
        .next { s with rf := b, responses := s.responses ++ [0x5300 ||| (expected s.sf s.rf).setWidth 16] }
      | .accept, _ => .next { s with responses := s.responses ++ [0x5100] })

/-- 40_check_frame.md R47: the expected byte by the parity of `SF`; and a CHECK of an I-pattern byte reports that byte,
computed from the counters before any write, in `R` (30_encoding.md R42, whose every row ResponseReportsResultByte
states). -/
def Obligations.ExpectedByteByParity : Prop :=
  (∀ sf rf : Byte, expected sf rf = if sf[0] = false then incRR (incSS rf) else incSS rf &&& 0xFF) ∧
  ∀ (s : State) (b : Byte), b[0] = false → ∃ (t : State) (w : Word),
    exec (.check b) s = .next t ∧ t.responses = s.responses ++ [w] ∧ w.extractLsb' 0 8 = expected s.sf s.rf

/-- The bit fields of the expected byte that a CHECK reports: bit 0 is 0, so no odd byte matches; N(S) is that of `RF` plus 1;
on the odd branch the high nibble is that of `RF`, on the even branch N(R) is that of `RF` plus 1 and bit 4 is set
(40_check_frame.md section 2, the derived half of R47, an inference of the spec's own). -/
def Obligations.ExpectedByteFields : Prop :=
  ∀ (s : State) (b : Byte), b[0] = false → ∃ (t : State) (w : Word),
    exec (.check b) s = .next t ∧ t.responses = s.responses ++ [w] ∧
      w[0] = false ∧ (∀ d : Byte, d[0] = true → d ≠ w.extractLsb' 0 8) ∧
      w.extractLsb' 1 3 = s.rf.extractLsb' 1 3 + 1 ∧
      (s.sf[0] = true → w.extractLsb' 4 4 = s.rf.extractLsb' 4 4) ∧
      (s.sf[0] = false → w.extractLsb' 5 3 = s.rf.extractLsb' 5 3 + 1 ∧ w[4] = true)

/-- 30_encoding.md R41: the class code of every response. CHECK reports the class of its byte; any other command and an
illegal word report NONE; `0b110` and `0b111` are never produced. -/
def Obligations.ResponseReportsClass : Prop :=
  (∀ (s : State) (b : Byte), ∃ (t : State) (w : Word),
    exec (.check b) s = .next t ∧ t.responses = s.responses ++ [w] ∧
      w.extractLsb' 12 3 =
        (if b = 0x13 then 0b001 else if b = 0x73 ∨ b = 0x93 then 0b010 else if b[0] = false then 0b100
         else if b[1] = false then 0b011 else 0b101)) ∧
  (∀ (s : State) (i : Instr), (∀ b, i ≠ .check b) → ∃ (t : State) (w : Word),
    exec i s = .next t ∧ t.responses = s.responses ++ [w] ∧ w.extractLsb' 12 3 = 0b000) ∧
  (∀ (s : State) (w : Word) (ws : List Word) (why : IllegalReason), s.pending = w :: ws → decode w = .illegal why →
    ∃ (t : State) (r : Word), step s = .next t ∧ t.responses = s.responses ++ [r] ∧ r.extractLsb' 12 3 = 0b000)

/-- 30_encoding.md R42: the result byte of every response. A CHECK that compares reports `expected` of the counters before
any write; the generators report the new `SF`, GET_RR and GET_KA with bits 3 to 1 cleared; INC_RR and INC_SS report the
increment; any other CHECK, RESET and an illegal word report 0. -/
def Obligations.ResponseReportsResultByte : Prop :=
  (∀ (s : State) (i : Instr), ∃ (t : State) (w : Word),
    exec i s = .next t ∧ t.responses = s.responses ++ [w] ∧
      w.extractLsb' 0 8 =
        (match i with
        | .check b =>
          if b[0] = false ∨ (b[1] = true ∧ b ≠ 0x13 ∧ b ≠ 0x73 ∧ b ≠ 0x93 ∧ s.params.uOtherMode = .asIFrame) then
            expected s.sf s.rf
          else 0x00
        | .nextSend _ => t.sf
        | .getRR => t.sf &&& 0xF1
        | .getKA => t.sf &&& 0xF1
        | .reset => 0x00
        | .incRR v => incRR v
        | .incSS v => incSS v)) ∧
  (∀ (s : State) (w : Word) (ws : List Word) (why : IllegalReason), s.pending = w :: ws → decode w = .illegal why →
    ∃ (t : State) (r : Word), step s = .next t ∧ t.responses = s.responses ++ [r] ∧ r.extractLsb' 0 8 = 0x00)

/-- CHECK rejects exactly when it compares, the byte differs and the bypass is off, and shows `MIS` exactly when it compares
and the byte differs; with the bypass off exactly one I-pattern byte is accepted, the expected one (40_check_frame.md
section 4, R58, an inference of the spec's own). -/
def Obligations.CheckVerdictExact : Prop :=
  ∀ (s : State) (b : Byte), ∃ (t : State) (w : Word),
    exec (.check b) s = .next t ∧ t.responses = s.responses ++ [w] ∧
      (w[9] = true ↔
        (b[0] = false ∨ (b[1] = true ∧ b ≠ 0x13 ∧ b ≠ 0x73 ∧ b ≠ 0x93 ∧ s.params.uOtherMode = .asIFrame)) ∧
          b ≠ expected s.sf s.rf) ∧
      (w[8] = false ↔ w[9] = true ∧ s.skip = false) ∧
      (s.skip = false → b[0] = false → (w[8] = true ↔ b = expected s.sf s.rf))

/-- 60_exceptions.md R79: a mismatch on the I path, or the U_OTHER path under `AS_I_FRAME`. With the bypass off nothing
changes and the response has `ACC = 0`, `MIS = 1`, the class and `R = expected`; with it on, `ACC = 1`, `MIS = 1` and
`RF <- D`. -/
def Obligations.SequenceMismatchIsReported : Prop :=
  ∀ (s : State) (b : Byte),
    (b[0] = false ∨
      (b[1] = true ∧ b ≠ 0x13 ∧ b ≠ 0x73 ∧ b ≠ 0x93 ∧ s.params.uOtherMode = .asIFrame)) →
    b ≠ expected s.sf s.rf → ∃ w : Word,
      exec (.check b) s =
        .next (if s.skip then { s with rf := b, responses := s.responses ++ [w] }
          else { s with responses := s.responses ++ [w] }) ∧
      w[8] = s.skip ∧ w[9] = true ∧ w[15] = false ∧
      w.extractLsb' 12 3 = (if b[0] = false then 0b100 else 0b101) ∧ w.extractLsb' 0 8 = expected s.sf s.rf

/-- Only the U_RESET path of CHECK writes `SF`, and `RF` takes no value but its old one, the received byte, `incRR` of the
old one or the initial one (40_check_frame.md section 4, R57, and 10_state.md R12). -/
def Obligations.CheckWritesWithinFrame : Prop :=
  ∀ (s : State) (b : Byte), ∃ (t : State) (w : Word),
    exec (.check b) s = .next t ∧ t.responses = s.responses ++ [w] ∧ t.role = s.role ∧ t.skip = s.skip ∧
      t.params = s.params ∧ t.pending = s.pending ∧
      (b ≠ 0x73 → b ≠ 0x93 → t.sf = s.sf ∧ (t.rf = s.rf ∨ t.rf = b ∨ (b[0] = true ∧ b[1] = false ∧ t.rf = incRR s.rf))) ∧
      (b = 0x73 ∨ b = 0x93 → t.sf = initS s.params s.role ∧ t.rf = initR s.role)

/-- After a rejected CHECK the block is in the state it was in, and every later CHECK is answered as it would have been
(60_exceptions.md section 1, R82). -/
def Obligations.RejectionLeavesTheBlockAlone : Prop :=
  ∀ (s t : State) (b : Byte) (w : Word), exec (.check b) s = .next t → t.responses = s.responses ++ [w] → w[8] = false →
    SameBlock s t ∧ expected t.sf t.rf = expected s.sf s.rf ∧
      ∀ (c : Byte), ∃ (u v : State) (r : Word), exec (.check c) s = .next u ∧ exec (.check c) t = .next v ∧
        SameBlock u v ∧ u.responses = s.responses ++ [r] ∧ v.responses = t.responses ++ [r]

/-! ### INC_RR and INC_SS -/

/-- 41_sequence_increment.md R61 with the formula of R59: INC_RR responds with `incRR(D)` alone and changes no state; its
words are `0x6000 | D`. -/
def Obligations.IncRRRespondsWithIncrement : Prop :=
  (∀ v : Byte, decode (0x6000 ||| v.setWidth 16) = .instr (.incRR v)) ∧
  ∀ (s : State) (v : Byte), exec (.incRR v) s =
    .next { s with responses := s.responses ++ [(((v + 0x20) ||| 0x10 ||| (v &&& 0x0E)) &&& 0xFF).setWidth 16] }

/-- 41_sequence_increment.md R64 with the formula of R62: INC_SS responds with `incSS(D)` alone and changes no state; its
words are `0x7000 | D`. -/
def Obligations.IncSSRespondsWithIncrement : Prop :=
  (∀ v : Byte, decode (0x7000 ||| v.setWidth 16) = .instr (.incSS v)) ∧
  ∀ (s : State) (v : Byte), exec (.incSS v) s =
    .next { s with responses := s.responses ++ [(((v &&& 0xF0) ||| ((v + 0x2) &&& 0x0E)) &&& 0xFF).setWidth 16] }

/-- The closed forms: INC_RR adds 1 to bits 7 to 5, sets bit 4 and keeps bits 3 to 0; INC_SS keeps bits 7 to 4, adds 1 to
bits 3 to 1 and clears bit 0 (41_sequence_increment.md sections 1 and 2, R60 and R63, inferences of the spec's own). -/
def Obligations.IncrementClosedForms : Prop :=
  ∀ (s : State) (v : Byte), ∃ r q : Word,
    exec (.incRR v) s = .next { s with responses := s.responses ++ [r] } ∧
      exec (.incSS v) s = .next { s with responses := s.responses ++ [q] } ∧
      r.extractLsb' 5 3 = v.extractLsb' 5 3 + 1 ∧ r[4] = true ∧ r.extractLsb' 0 4 = v.extractLsb' 0 4 ∧
      q.extractLsb' 4 4 = v.extractLsb' 4 4 ∧ q.extractLsb' 1 3 = v.extractLsb' 1 3 + 1 ∧ q[0] = false ∧
      r.extractLsb' 8 8 = 0 ∧ q.extractLsb' 8 8 = 0

/-- INC_SS of what INC_RR answered is answered as INC_RR of what INC_SS answered (41_sequence_increment.md section 3, R65,
an inference of the spec's own). -/
def Obligations.IncrementCommandsCommute : Prop :=
  ∀ (s : State) (v : Byte), ∃ r q : Word,
    exec (.incRR v) s = .next { s with responses := s.responses ++ [r] } ∧
      exec (.incSS v) s = .next { s with responses := s.responses ++ [q] } ∧
      exec (.incSS (r.extractLsb' 0 8)) s = exec (.incRR (q.extractLsb' 0 8)) s

/-! ### NEXT_SEND, GET_RR and GET_KA -/

/-- 42_frame_generation.md R67: NEXT_SEND writes `SF` by its operand and responds with the new `SF`; its words are
`0x2100` and `0x2000`. -/
def Obligations.NextSendUpdatesSF : Prop :=
  decode 0x2100 = .instr (.nextSend true) ∧ decode 0x2000 = .instr (.nextSend false) ∧
  ∀ s : State,
    exec (.nextSend true) s = .next { s with
      sf := incRR (incSS s.sf), responses := s.responses ++ [(incRR (incSS s.sf)).setWidth 16] } ∧
    exec (.nextSend false) s = .next { s with
      sf := incSS s.sf, responses := s.responses ++ [(incSS s.sf).setWidth 16] }

/-- The bit fields of what NEXT_SEND writes and returns (42_frame_generation.md section 1, R68, an inference of the spec's
own): always the I pattern and N(S) + 1; with `F = 1` also N(R) + 1 and bit 4, with `F = 0` the high nibble kept. -/
def Obligations.NextSendFields : Prop :=
  ∀ (s : State) (f : Bool), ∃ t : State,
    exec (.nextSend f) s = .next t ∧ t.responses = s.responses ++ [t.sf.setWidth 16] ∧ t.sf[0] = false ∧
      t.sf.extractLsb' 1 3 = s.sf.extractLsb' 1 3 + 1 ∧
      (f = true → t.sf.extractLsb' 5 3 = s.sf.extractLsb' 5 3 + 1 ∧ t.sf[4] = true) ∧
      (f = false → t.sf.extractLsb' 4 4 = s.sf.extractLsb' 4 4)

/-- NEXT_SEND does not depend on bit 0 of `SF` (42_frame_generation.md section 1, R69, an inference of the spec's own). -/
def Obligations.NextSendIgnoresParity : Prop :=
  ∀ (s : State) (f : Bool), exec (.nextSend f) { s with sf := s.sf &&& 0xFE } = exec (.nextSend f) s

/-- 42_frame_generation.md R70: GET_RR writes `incRR(SF | 1)` to `SF` and responds with it under the mask `0xF1`; its
word is `0x3000`. -/
def Obligations.GetRRUpdatesSF : Prop :=
  decode 0x3000 = .instr .getRR ∧
  ∀ s : State, exec .getRR s = .next { s with
    sf := incRR (s.sf ||| 1), responses := s.responses ++ [(incRR (s.sf ||| 1) &&& 0xF1).setWidth 16] }

/-- The bit fields of what GET_RR stores and returns (42_frame_generation.md section 2, R71, an inference of the spec's
own): N(R) + 1, bit 4, bit 0 and, in what it stores only, the old N(S). -/
def Obligations.GetRRFields : Prop :=
  ∀ s : State, ∃ (t : State) (w : Word),
    exec .getRR s = .next t ∧ t.responses = s.responses ++ [w] ∧
      w.extractLsb' 5 3 = s.sf.extractLsb' 5 3 + 1 ∧ w.extractLsb' 0 5 = 0b10001 ∧
      t.sf.extractLsb' 5 3 = s.sf.extractLsb' 5 3 + 1 ∧ t.sf[4] = true ∧ t.sf[0] = true ∧
      t.sf.extractLsb' 1 3 = s.sf.extractLsb' 1 3

/-- 42_frame_generation.md R72: GET_KA sets bit 0 of `SF` and responds with it under the mask `0xF1`; its word is
`0x4000`. -/
def Obligations.GetKAUpdatesSF : Prop :=
  decode 0x4000 = .instr .getKA ∧
  ∀ s : State, exec .getKA s = .next { s with
    sf := s.sf ||| 1, responses := s.responses ++ [((s.sf ||| 1) &&& 0xF1).setWidth 16] }

/-- GET_KA changes only bit 0 of `SF` and returns its high nibble over `0001`; a second GET_KA leaves `SF` and returns the
same byte (42_frame_generation.md section 3, R73, an inference of the spec's own). -/
def Obligations.GetKAFieldsAndIdempotence : Prop :=
  ∀ s : State, ∃ (t : State) (w : Word),
    exec .getKA s = .next t ∧ t.responses = s.responses ++ [w] ∧ t.sf.extractLsb' 1 7 = s.sf.extractLsb' 1 7 ∧
      t.sf[0] = true ∧ w.extractLsb' 4 12 = (s.sf.extractLsb' 4 4).setWidth 12 ∧ w.extractLsb' 0 4 = 0b0001 ∧
      exec .getKA t = .next { t with responses := t.responses ++ [w] }

/-- 42_frame_generation.md R74: the three generating commands neither read nor write `RF`, `ROLE` or `SKIP`, and report no
mismatch and no illegal word. -/
def Obligations.GeneratorsIgnoreReceiverRoleAndSkip : Prop :=
  ∀ (s : State) (i : Instr), i = .nextSend true ∨ i = .nextSend false ∨ i = .getRR ∨ i = .getKA →
    ∃ (v : Byte) (w : Word),
      w[9] = false ∧ w[15] = false ∧
      ∀ (rf : Byte) (role : Role) (skip : Bool),
        exec i { s with rf := rf, role := role, skip := skip } =
          .next { s with sf := v, rf := rf, role := role, skip := skip, responses := s.responses ++ [w] }

/-- With bit 4 of `SF` set, as it is after construction for both roles, every byte a generating command returns has bit 4
set, NEXT_SEND's has the I pattern and GET_RR's and GET_KA's have the low nibble `0001` (30_encoding.md section 1, R36, an
inference of the spec's own). -/
def Obligations.GeneratedBytePatterns : Prop :=
  ∀ s : State, PollBitSet s →
    (∀ f : Bool, ∃ (t : State) (w : Word), exec (.nextSend f) s = .next t ∧ t.responses = s.responses ++ [w] ∧
      w[4] = true ∧ w[0] = false) ∧
    (∀ i : Instr, i = .getRR ∨ i = .getKA → ∃ (t : State) (w : Word), exec i s = .next t ∧
      t.responses = s.responses ++ [w] ∧ w[4] = true ∧ w.extractLsb' 0 4 = 0b0001)

/-- Eight continuation frames bring `SF` back to `SF & 0xFE`, and eight Receiver Ready frames to `SF | 0x11`
(42_frame_generation.md section 1, R68, and 41_sequence_increment.md section 1, R60, inferences of the spec's own). -/
def Obligations.EightFramesCloseTheCycle : Prop :=
  ∀ (s : State) (ws : List Word),
    (s.pending = List.replicate 8 0x2000 ++ ws → ∃ t : State, Host.Core.run core 8 s = .next t ∧ t.pending = ws ∧
      t.sf = s.sf &&& 0xFE ∧ t.rf = s.rf) ∧
    (s.pending = List.replicate 8 0x3000 ++ ws → ∃ t : State, Host.Core.run core 8 s = .next t ∧ t.pending = ws ∧
      t.sf = s.sf ||| 0x11 ∧ t.rf = s.rf)

/-! ### Order, parity and what is hidden -/

/-- Bit 0 of `SF` says which kind of byte was generated last: NEXT_SEND clears it, GET_RR and GET_KA set it, and every other
command but a reset keeps it (10_state.md section 4, R18, an inference of the spec's own). -/
def Obligations.SenderParityTracksTheGenerator : Prop :=
  ∀ (s : State) (i : Instr), ∃ t : State, exec i s = .next t ∧
    (match i with
    | .nextSend _ => t.sf[0] = false
    | .getRR => t.sf[0] = true
    | .getKA => t.sf[0] = true
    | .reset => t.sf = initS s.params s.role
    | .check b => if b = 0x73 ∨ b = 0x93 then t.sf = initS s.params s.role else t.sf[0] = s.sf[0]
    | .incRR _ => t.sf[0] = s.sf[0]
    | .incSS _ => t.sf[0] = s.sf[0])

/-- What was generated last decides which byte the next CHECK expects (70_reset_and_hazards.md section 3, R98, an inference of
the spec's own): after NEXT_SEND it is `incRR(incSS(RF))`, after GET_RR or GET_KA it is `incSS(RF)`. -/
def Obligations.GeneratingBeforeCheckingDecides : Prop :=
  ∀ (s : State) (i : Instr) (b : Byte), b[0] = false → s.skip = false →
    i = .nextSend true ∨ i = .nextSend false ∨ i = .getRR ∨ i = .getKA →
    ∃ (t u : State) (w : Word), exec i s = .next t ∧ exec (.check b) t = .next u ∧ u.responses = t.responses ++ [w] ∧
      (w[8] = true ↔ b = if i = .getRR ∨ i = .getKA then incSS s.rf else incRR (incSS s.rf))

/-- `RF` shows in no response but that of a CHECK that compares (10_state.md section 6, R20, an inference of the spec's
own). -/
def Obligations.ReceiverFrameIsHidden : Prop :=
  ∀ (s : State) (i : Instr) (rf : Byte),
    (∀ b, i = .check b → b[0] = true ∧ (b[1] = false ∨ b = 0x13 ∨ b = 0x73 ∨ b = 0x93 ∨ s.params.uOtherMode = .accept)) →
    ∃ (t u : State) (w : Word), exec i s = .next t ∧ exec i { s with rf := rf } = .next u ∧
      t.responses = s.responses ++ [w] ∧ u.responses = s.responses ++ [w] ∧ t.sf = u.sf

/-! ### Invariants every step keeps -/

/-- No step clears bit 4 of `SF` (30_encoding.md section 1, R36, an inference of the spec's own). -/
def Obligations.StepKeepsPollBit : Prop :=
  ∀ s t : State, PollBitSet s → step s = .next t → PollBitSet t

/-- With the bypass off no step makes `RF` odd (70_reset_and_hazards.md section 3, R99, with 40_check_frame.md R47). -/
def Obligations.StepKeepsReceiverEven : Prop :=
  ∀ s t : State, ReceiverEven s → step s = .next t → ReceiverEven t

/-- Every response any step gives has the layout of 30_encoding.md section 3: the reserved bits 0, no class code `0b110` or
`0b111`, an illegal word's response exactly `0x8000`. -/
def Obligations.StepKeepsResponsesValid : Prop :=
  ∀ s t : State, ResponsesValid s → step s = .next t → ResponsesValid t

/-- The three invariants hold of every newly constructed instance (the first for a `CLIENT_SENDER_INIT` with bit 4 set, as
`0x10` has), and of the state after reset (10_state.md section 3). -/
def Obligations.InvariantsHoldAtConstruction : Prop :=
  (∀ (p : Params) (role : Role) (skip : Bool), p.clientSenderInit[4] = true → PollBitSet (State.construct p role skip)) ∧
  (∀ (p : Params) (role : Role) (skip : Bool), ReceiverEven (State.construct p role skip) ∧
    ResponsesValid (State.construct p role skip)) ∧
  PollBitSet State.reset ∧ ReceiverEven State.reset ∧ ResponsesValid State.reset

/-! ### Two instances, the port and the text -/

/-- Steps of different instances change nothing of each other and come to the same in either order (20_memory.md section 3,
R27, an inference of the spec's own; 10_state.md section 6). -/
def Obligations.InstancesAreIndependent : Prop :=
  ∀ (ss : List State) (j k : Nat), j ≠ k → ∃ ts us vs : List State,
    stepAt j ss = .next ts ∧ stepAt k ss = .next us ∧ stepAt k ts = .next vs ∧ stepAt j us = .next vs ∧
      ts[k]? = ss[k]? ∧ us[j]? = ss[j]?

/-- A pair in step stays in step: the receiver accepts the byte the sender's NEXT_SEND 1 returns, and, once the receiver
answers with its own NEXT_SEND 1, the two are in step again (40_check_frame.md R47 and R53 with 42_frame_generation.md R67; the
round-trip property of 95_test_vectors.md section 1.5, stated from the states it holds in). -/
def Obligations.PairInStepStaysInStep : Prop :=
  ∀ a b : State, InStep a b → ∃ (a' b' b'' : State) (c : Byte),
    exec (.nextSend true) a = .next a' ∧ a'.responses = a.responses ++ [c.setWidth 16] ∧
      exec (.check c) b = .next b' ∧ b'.responses = b.responses ++ [0x4100 ||| c.setWidth 16] ∧
      exec (.nextSend true) b' = .next b'' ∧ InStep a' b''

/-- A fresh Client and a fresh Server are in step exactly when `CLIENT_SENDER_INIT` is one of four values, of which the
normative `0x10` is none (90_conflicts.md C1). -/
def Obligations.FreshPairInStepOnlyForFourValues : Prop :=
  ∀ (p q : Params) (k l : Bool),
    InStep (State.construct p .client k) (State.construct q .server l) ↔
      p.clientSenderInit = 0xEE ∨ p.clientSenderInit = 0xEF ∨ p.clientSenderInit = 0xFE ∨ p.clientSenderInit = 0xFF

/-- Presenting a word as two bytes is presenting the word, in either order, and the bytes of a response carry the response
(20_memory.md section 2). -/
def Obligations.HostWordOrderHasNoEffect : Prop :=
  ∀ (s : State) (w : Word),
    presentBytes (wordToBytes s.params.hostWordOrder w) s = present [w] s ∧
      (responseBytes s).map (wordOfBytes s.params.hostWordOrder) = s.responses

/-- A command written as text is read back as itself, with or without a comment after it (30_encoding.md section 4; what
R43 does not settle is the model's, log entry 17, DESIGN CHOICE). -/
def Obligations.AssemblerReadsWhatItWrites : Prop :=
  ∀ (i : Instr) (comment : List Char),
    readLine (writeInstr i) = .command i ∧ readLine (writeInstr i ++ [' ', ';'] ++ comment) = .command i

/-- 30_encoding.md R44: the two pseudo-instructions, what each expands to and its word, read from text as well. -/
def Obligations.PseudoInstructionsExpand : Prop :=
  Pseudo.expand .nextSendFirst = .nextSend true ∧ encode (Pseudo.expand .nextSendFirst) = 0x2100 ∧
    Pseudo.expand .nextSendCont = .nextSend false ∧ encode (Pseudo.expand .nextSendCont) = 0x2000 ∧
    readLine nextSendFirstText = .command (.nextSend true) ∧ readLine nextSendContText = .command (.nextSend false)
end

