-- ==== Sys2Proof/Laws/Decode.lean ====
section
/-! SUPPORT. What the decoder does with a word, said once: it takes the row the word selects, or names the word illegal
(30_encoding.md R38 and R39). -/

namespace Sys2Proof

/-- Exactly one outcome for each word: some row of the opcode map selects it and builds the command, or none does. -/
theorem decode_cases (w : Word) :
    (∃ r ∈ opcodeRows, rowSelects r w = true ∧ decode w = .instr (r.build w)) ∨
      ((∀ r ∈ opcodeRows, rowSelects r w = false) ∧ decode w = .illegal (illegalReason w)) := by
  cases h : opcodeRows.find? (fun r => rowSelects r w) with
  | some r =>
    refine .inl ⟨r, List.mem_of_find?_eq_some h, by simpa using List.find?_some h, ?_⟩
    simp [decode, h]
  | none =>
    refine .inr ⟨fun r hr => ?_, by simp [decode, h]⟩
    simpa using List.find?_eq_none.mp h r hr

/-- A word is what its four fields make. -/
theorem word_of_fields (w : Word) :
    w = fieldAt 12 (commandFields w).op ||| fieldAt 9 (commandFields w).z ||| fieldAt 8 (commandFields w).f |||
      fieldAt 0 (commandFields w).d := by
  apply BitVec.eq_of_getElem_eq
  intro i hi
  interval_cases i <;> simp [fieldAt, commandFields]

/-- The word of a byte-operand row carries its operand. -/
theorem byteOperand_commandWord (op : BitVec 4) (f : BitVec 1) (d : Byte) :
    byteOperand (commandWord op f d) = d := by
  apply BitVec.eq_of_getElem_eq
  intro i hi
  simp [byteOperand, commandFields, commandWord, fieldAt, hi, show i < 16 by omega, show i < 12 by omega]

end Sys2Proof
end

