-- ==== Sys2Proof/Laws/Operands.lean ====
section
/-! SUPPORT. The class of a byte from its bits (40_check_frame.md R46). -/

namespace Sys2Proof.Machine

/-- A byte with bit 0 clear is an I-frame's. -/
theorem classify_of_i {b : Byte} (h : b[0] = false) : classify b = .i := by
  revert b; decide

/-- A byte with low bits `01` is an S-frame's. -/
theorem classify_of_s {b : Byte} (h0 : b[0] = true) (h1 : b[1] = false) : classify b = .s := by
  revert b; decide

/-- A byte with low bits `11` but for the three named values is a U_OTHER byte. -/
theorem classify_of_uOther {b : Byte} (h0 : b[0] = true) (h1 : b[1] = true) (hn : b ≠ 0x13) (h7 : b ≠ 0x73)
    (h9 : b ≠ 0x93) : classify b = .uOther := by
  revert b; decide

/-- The two U-reset bytes. -/
theorem classify_of_uReset {b : Byte} (h : b = 0x73 ∨ b = 0x93) : classify b = .uReset := by
  obtain rfl | rfl := h <;> decide

/-- The notify byte. -/
@[simp] theorem classify_notify : classify 0x13 = .uiNotify := by decide

/-- Every byte falls under exactly one of the five forms above. -/
theorem classify_iff (b : Byte) :
    (classify b = .uiNotify ↔ b = 0x13) ∧ (classify b = .uReset ↔ b = 0x73 ∨ b = 0x93) ∧
      (classify b = .s ↔ b[0] = true ∧ b[1] = false) ∧ (classify b = .i ↔ b[0] = false) ∧
      (classify b = .uOther ↔ b[0] = true ∧ b[1] = true ∧ b ≠ 0x13 ∧ b ≠ 0x73 ∧ b ≠ 0x93) := by
  revert b; decide

end Sys2Proof.Machine
end

