-- ==== Sys2Proof/Laws/PerInstr.lean ====
section
/-! SUPPORT. One fact about every command as it is written: its word selects a row of the opcode map that bears its mnemonic
(30_encoding.md R38), and the word's fields are well formed (R39). -/

namespace Sys2Proof.Laws.RowOfWord

/-- The command's word selects a row of the opcode map with the command's mnemonic, and its fields pass every check. -/
def Statement (i : Instr) : Prop :=
  (∃ r ∈ opcodeRows, r.mnemonic = i.mnemonic ∧ rowSelects r (encode i) = true) ∧
    (commandFields (encode i)).wellFormed = true

/-- A row chosen by its place in the map. -/
theorem of_row {i : Instr} (n : Nat) (r : OpcodeRow) (hr : opcodeRows[n]? = some r) (hm : r.mnemonic = i.mnemonic)
    (hs : rowSelects r (encode i) = true) (hw : (commandFields (encode i)).wellFormed = true) : Statement i :=
  ⟨⟨r, List.mem_of_getElem? hr, hm, hs⟩, hw⟩

theorem check (frame : Byte) : Statement (.check frame) :=
  of_row 0 _ rfl rfl (by revert frame; decide) (by revert frame; decide)

theorem nextSend (first : Bool) : Statement (.nextSend first) :=
  of_row 1 _ rfl rfl (by revert first; decide) (by revert first; decide)

theorem getRR : Statement .getRR :=
  of_row 2 _ rfl rfl (by decide) (by decide)

theorem getKA : Statement .getKA :=
  of_row 3 _ rfl rfl (by decide) (by decide)

theorem reset : Statement .reset :=
  of_row 4 _ rfl rfl (by decide) (by decide)

theorem incRR (value : Byte) : Statement (.incRR value) :=
  of_row 5 _ rfl rfl (by revert value; decide) (by revert value; decide)

theorem incSS (value : Byte) : Statement (.incSS value) :=
  of_row 6 _ rfl rfl (by revert value; decide) (by revert value; decide)

end Sys2Proof.Laws.RowOfWord
end

