-- ==== Sys2Proof/Laws/Response.lean ====
section
/-! SUPPORT. The fields of a packed response word, and the layout of every response a command gives (30_encoding.md R40). -/

namespace Sys2Proof.Machine

@[simp] theorem packResponse_ill (a : Response) : respIll (packResponse a) = a.ill := by
  obtain ⟨ill, cls, mis, acc, r⟩ := a
  simp [respIll, packResponse, fieldAt]

@[simp] theorem packResponse_mis (a : Response) : respMis (packResponse a) = a.mis := by
  obtain ⟨ill, cls, mis, acc, r⟩ := a
  simp [respMis, packResponse, fieldAt]

@[simp] theorem packResponse_acc (a : Response) : respAcc (packResponse a) = a.acc := by
  obtain ⟨ill, cls, mis, acc, r⟩ := a
  simp [respAcc, packResponse, fieldAt]

@[simp] theorem packResponse_cls (a : Response) : respCls (packResponse a) = classCode a.cls := by
  obtain ⟨ill, cls, mis, acc, r⟩ := a
  apply BitVec.eq_of_getElem_eq
  intro i hi
  have : i = 0 ∨ i = 1 ∨ i = 2 := by omega
  rcases this with rfl | rfl | rfl <;> simp [respCls, packResponse, fieldAt]

@[simp] theorem packResponse_z (a : Response) : respZ (packResponse a) = 0 := by
  obtain ⟨ill, cls, mis, acc, r⟩ := a
  apply BitVec.eq_of_getElem_eq
  intro i hi
  have : i = 0 ∨ i = 1 := by omega
  rcases this with rfl | rfl <;> simp [respZ, packResponse, fieldAt]

@[simp] theorem packResponse_r (a : Response) : respR (packResponse a) = a.r := by
  obtain ⟨ill, cls, mis, acc, r⟩ := a
  apply BitVec.eq_of_getElem_eq
  intro i hi
  simp [respR, packResponse, fieldAt, hi, show i < 16 by omega, show i < 15 by omega, show i < 12 by omega, show i < 9 by omega]

/-- The response to an illegal word (60_exceptions.md R80). -/
@[simp] theorem packResponse_illegal : packResponse illegalResponse = 0x8000 := by decide

/-- The response of every command but CHECK is its result byte, zero-extended. -/
theorem packResponse_result (r : Byte) : packResponse (resultResponse r) = r.setWidth 16 := by
  revert r; decide

/-- The response of a CHECK that accepts without comparing is a constant of its class (40_check_frame.md R50 to R52). -/
@[simp] theorem packResponse_accept (c : FrameClass) :
    packResponse (acceptResponse c) =
      (match c with | .uiNotify => 0x1100 | .uReset => 0x2100 | .s => 0x3100 | .i => 0x4100 | .uOther => 0x5100) := by
  cases c <;> decide

/-- The response of a CHECK that compares, by its class and verdict (40_check_frame.md R53 to R56). -/
theorem packResponse_compare (r : Byte) :
    packResponse { cls := some .i, acc := true, r := r } = 0x4100 ||| r.setWidth 16 ∧
      packResponse { cls := some .i, mis := true, r := r } = 0x4200 ||| r.setWidth 16 ∧
      packResponse { cls := some .i, mis := true, acc := true, r := r } = 0x4300 ||| r.setWidth 16 ∧
      packResponse { cls := some .uOther, mis := true, r := r } = 0x5200 ||| r.setWidth 16 ∧
      packResponse { cls := some .uOther, mis := true, acc := true, r := r } = 0x5300 ||| r.setWidth 16 := by
  revert r; decide

theorem validResponse_illegal : validResponse 0x8000 = true := by decide

theorem validResponse_result (r : Byte) : validResponse (packResponse (resultResponse r)) = true := by
  simp [validResponse, resultResponse, classCode]

/-- A CHECK response that shows a mismatch, or that accepts, has the layout of R40. -/
theorem validResponse_check (c : FrameClass) (mis acc : Bool) (r : Byte) (h : mis = true ∨ acc = true) :
    validResponse (packResponse { cls := some c, mis := mis, acc := acc, r := r }) = true := by
  cases c <;> simpa [validResponse, classCode] using h

end Sys2Proof.Machine
end

