-- ==== Sys2Proof/Laws/Sequence.lean ====
section
/-! SUPPORT. What the two increment functions do to each bit field (41_sequence_increment.md R60 and R63), and the parity of
the expected byte (40_check_frame.md R47). -/

namespace Sys2Proof.Machine

/-- `incRR` adds 1 to the N(R) field, modulo 8. -/
@[simp] theorem incRR_nr (v : Byte) : (incRR v).extractLsb' 5 3 = v.extractLsb' 5 3 + 1 := by
  revert v; decide

/-- `incRR` sets bit 4. -/
@[simp] theorem incRR_poll (v : Byte) : (incRR v)[4] = true := by
  revert v; decide

/-- `incRR` keeps the low nibble. -/
@[simp] theorem incRR_low (v : Byte) : (incRR v).extractLsb' 0 4 = v.extractLsb' 0 4 := by
  revert v; decide

/-- `incRR` keeps bit 0. -/
@[simp] theorem incRR_parity (v : Byte) : (incRR v)[0] = v[0] := by
  revert v; decide

/-- `incSS` keeps the high nibble. -/
@[simp] theorem incSS_high (v : Byte) : (incSS v).extractLsb' 4 4 = v.extractLsb' 4 4 := by
  revert v; decide

/-- `incSS` adds 1 to the N(S) field, modulo 8. -/
@[simp] theorem incSS_ns (v : Byte) : (incSS v).extractLsb' 1 3 = v.extractLsb' 1 3 + 1 := by
  revert v; decide

/-- `incSS` clears bit 0. -/
@[simp] theorem incSS_parity (v : Byte) : (incSS v)[0] = false := by
  revert v; decide

/-- `incSS` keeps bit 4. -/
@[simp] theorem incSS_poll (v : Byte) : (incSS v)[4] = v[4] := by
  revert v; decide

/-- `incSS` ignores bit 0. -/
theorem incSS_clear_parity (v : Byte) : incSS (v &&& 0xFE) = incSS v := by
  revert v; decide

/-- The expected byte when `SF` is even. -/
theorem expected_of_even {sf : Byte} (h : sf[0] = false) (rf : Byte) :
    expected sf rf = incRR (incSS rf) := by
  simp [expected, h]

/-- The expected byte when `SF` is odd. -/
theorem expected_of_odd {sf : Byte} (h : sf[0] = true) (rf : Byte) : expected sf rf = incSS rf := by
  simp only [expected, h, if_true]
  revert rf; decide

/-- The expected byte is even, whatever the counters. -/
@[simp] theorem expected_parity (sf rf : Byte) : (expected sf rf)[0] = false := by
  cases h : sf[0]
  · rw [expected_of_even h, incRR_parity, incSS_parity]
  · rw [expected_of_odd h, incSS_parity]

end Sys2Proof.Machine
end

