-- ==== Sys2Proof/Laws/State.lean ====
section
/-! SUPPORT. One lemma per field per update of the state, each true by unfolding, so that no later proof unfolds a record
update. -/

namespace Sys2Proof.Machine

@[simp] theorem setSF_sf (v : Byte) (s : State) : (setSF v s).sf = v := rfl
@[simp] theorem setSF_rf (v : Byte) (s : State) : (setSF v s).rf = s.rf := rfl
@[simp] theorem setSF_role (v : Byte) (s : State) : (setSF v s).role = s.role := rfl
@[simp] theorem setSF_skip (v : Byte) (s : State) : (setSF v s).skip = s.skip := rfl
@[simp] theorem setSF_params (v : Byte) (s : State) : (setSF v s).params = s.params := rfl
@[simp] theorem setSF_pending (v : Byte) (s : State) : (setSF v s).pending = s.pending := rfl
@[simp] theorem setSF_responses (v : Byte) (s : State) : (setSF v s).responses = s.responses := rfl

@[simp] theorem setRF_sf (v : Byte) (s : State) : (setRF v s).sf = s.sf := rfl
@[simp] theorem setRF_rf (v : Byte) (s : State) : (setRF v s).rf = v := rfl
@[simp] theorem setRF_role (v : Byte) (s : State) : (setRF v s).role = s.role := rfl
@[simp] theorem setRF_skip (v : Byte) (s : State) : (setRF v s).skip = s.skip := rfl
@[simp] theorem setRF_params (v : Byte) (s : State) : (setRF v s).params = s.params := rfl
@[simp] theorem setRF_pending (v : Byte) (s : State) : (setRF v s).pending = s.pending := rfl
@[simp] theorem setRF_responses (v : Byte) (s : State) : (setRF v s).responses = s.responses := rfl

@[simp] theorem resetState_sf (s : State) : (resetState s).sf = initS s.params s.role := rfl
@[simp] theorem resetState_rf (s : State) : (resetState s).rf = initR s.role := rfl
@[simp] theorem resetState_role (s : State) : (resetState s).role = s.role := rfl
@[simp] theorem resetState_skip (s : State) : (resetState s).skip = s.skip := rfl
@[simp] theorem resetState_params (s : State) : (resetState s).params = s.params := rfl
@[simp] theorem resetState_pending (s : State) : (resetState s).pending = s.pending := rfl
@[simp] theorem resetState_responses (s : State) : (resetState s).responses = s.responses := rfl

@[simp] theorem respond_sf (a : Response) (s : State) : (respond a s).sf = s.sf := rfl
@[simp] theorem respond_rf (a : Response) (s : State) : (respond a s).rf = s.rf := rfl
@[simp] theorem respond_role (a : Response) (s : State) : (respond a s).role = s.role := rfl
@[simp] theorem respond_skip (a : Response) (s : State) : (respond a s).skip = s.skip := rfl
@[simp] theorem respond_params (a : Response) (s : State) : (respond a s).params = s.params := rfl
@[simp] theorem respond_pending (a : Response) (s : State) : (respond a s).pending = s.pending := rfl
@[simp] theorem respond_responses (a : Response) (s : State) : (respond a s).responses = s.responses ++ [packResponse a] := rfl

@[simp] theorem rejectWord_sf (s : State) : (rejectWord s).sf = s.sf := rfl
@[simp] theorem rejectWord_rf (s : State) : (rejectWord s).rf = s.rf := rfl
@[simp] theorem rejectWord_role (s : State) : (rejectWord s).role = s.role := rfl
@[simp] theorem rejectWord_skip (s : State) : (rejectWord s).skip = s.skip := rfl
@[simp] theorem rejectWord_params (s : State) : (rejectWord s).params = s.params := rfl
@[simp] theorem rejectWord_pending (s : State) : (rejectWord s).pending = s.pending := rfl
@[simp] theorem rejectWord_responses (s : State) : (rejectWord s).responses = s.responses ++ [packResponse illegalResponse] := rfl

@[simp] theorem generate_sf (v mask : Byte) (s : State) : (generate v mask s).sf = v := rfl
@[simp] theorem generate_rf (v mask : Byte) (s : State) : (generate v mask s).rf = s.rf := rfl
@[simp] theorem generate_role (v mask : Byte) (s : State) : (generate v mask s).role = s.role := rfl
@[simp] theorem generate_skip (v mask : Byte) (s : State) : (generate v mask s).skip = s.skip := rfl
@[simp] theorem generate_params (v mask : Byte) (s : State) : (generate v mask s).params = s.params := rfl
@[simp] theorem generate_pending (v mask : Byte) (s : State) : (generate v mask s).pending = s.pending := rfl
@[simp] theorem generate_responses (v mask : Byte) (s : State) : (generate v mask s).responses = s.responses ++ [packResponse (resultResponse (v &&& mask))] := rfl

@[simp] theorem present_sf (ws : List Word) (s : State) : (present ws s).sf = s.sf := rfl
@[simp] theorem present_rf (ws : List Word) (s : State) : (present ws s).rf = s.rf := rfl
@[simp] theorem present_role (ws : List Word) (s : State) : (present ws s).role = s.role := rfl
@[simp] theorem present_skip (ws : List Word) (s : State) : (present ws s).skip = s.skip := rfl
@[simp] theorem present_params (ws : List Word) (s : State) : (present ws s).params = s.params := rfl
@[simp] theorem present_pending (ws : List Word) (s : State) : (present ws s).pending = s.pending ++ ws := rfl
@[simp] theorem present_responses (ws : List Word) (s : State) : (present ws s).responses = s.responses := rfl

@[simp] theorem construct_sf (p : Params) (r : Role) (k : Bool) : (State.construct p r k).sf = initS p r := rfl
@[simp] theorem construct_rf (p : Params) (r : Role) (k : Bool) : (State.construct p r k).rf = initR r := rfl
@[simp] theorem construct_role (p : Params) (r : Role) (k : Bool) : (State.construct p r k).role = r := rfl
@[simp] theorem construct_skip (p : Params) (r : Role) (k : Bool) : (State.construct p r k).skip = k := rfl
@[simp] theorem construct_params (p : Params) (r : Role) (k : Bool) : (State.construct p r k).params = p := rfl
@[simp] theorem construct_pending (p : Params) (r : Role) (k : Bool) : (State.construct p r k).pending = [] := rfl
@[simp] theorem construct_responses (p : Params) (r : Role) (k : Bool) : (State.construct p r k).responses = [] := rfl

@[simp] theorem presentFirst_sf (w : Word) (s : State) : (presentFirst w s).sf = s.sf := rfl
@[simp] theorem presentFirst_rf (w : Word) (s : State) : (presentFirst w s).rf = s.rf := rfl
@[simp] theorem presentFirst_role (w : Word) (s : State) : (presentFirst w s).role = s.role := rfl
@[simp] theorem presentFirst_skip (w : Word) (s : State) : (presentFirst w s).skip = s.skip := rfl
@[simp] theorem presentFirst_params (w : Word) (s : State) : (presentFirst w s).params = s.params := rfl
@[simp] theorem presentFirst_pending (w : Word) (s : State) : (presentFirst w s).pending = w :: s.pending := rfl
@[simp] theorem presentFirst_responses (w : Word) (s : State) : (presentFirst w s).responses = s.responses := rfl

@[simp] theorem waitForCommand_eq (s : State) : waitForCommand s = s := rfl

/-- The initial receiver counter is even in both roles (10_state.md R16). -/
@[simp] theorem initR_parity (r : Role) : (initR r)[0] = false := by cases r <;> decide

/-- Bit 4 of the Server's initial sender counter is set (10_state.md R16). -/
@[simp] theorem initS_server_poll (p : Params) : (initS p .server)[4] = true := by
  show (0x1E : Byte)[4] = true; decide

/-- The Client's initial sender counter is the parameter (10_state.md R16). -/
@[simp] theorem initS_client (p : Params) : initS p .client = p.clientSenderInit := rfl

end Sys2Proof.Machine
end

