-- ==== Sys2Proof/Laws/Step.lean ====
section
/-! SUPPORT. What a step, a command and each path of CHECK can do, each said once. -/

namespace Sys2Proof.Machine

/-- With nothing presented, a step changes nothing. -/
theorem step_idle {s : State} (h : s.pending = []) : step s = .next s := by
  simp [step, takeCommand, waitForCommand, h]

/-- A legal word is taken and its command executed. -/
theorem step_instr {s : State} {w : Word} {ws : List Word} {i : Instr} (h : s.pending = w :: ws)
    (hd : decode w = .instr i) : step s = exec i { s with pending := ws } := by
  simp [step, takeCommand, h, hd]

/-- An illegal word is taken and rejected. -/
theorem step_illegal {s : State} {w : Word} {ws : List Word} {why : IllegalReason} (h : s.pending = w :: ws)
    (hd : decode w = .illegal why) : step s = .next (rejectWord { s with pending := ws }) := by
  simp [step, takeCommand, h, hd]

/-- Everything a step can be. -/
theorem step_cases (s : State) :
    (s.pending = [] ∧ step s = .next s) ∨
      ∃ w ws, s.pending = w :: ws ∧
        ((∃ i, decode w = .instr i ∧ step s = exec i { s with pending := ws }) ∨
          ((∃ why, decode w = .illegal why) ∧ step s = .next (rejectWord { s with pending := ws }))) := by
  cases h : s.pending with
  | nil => exact .inl ⟨rfl, step_idle h⟩
  | cons w ws =>
    refine .inr ⟨w, ws, rfl, ?_⟩
    cases hd : decode w with
    | instr i => exact .inl ⟨i, rfl, step_instr h hd⟩
    | illegal why => exact .inr ⟨⟨why, rfl⟩, step_illegal h hd⟩

/-- Everything the comparison of CHECK's I path can be: a match, a bypassed mismatch or a rejected one. -/
theorem validate_cases (c : FrameClass) (b : Byte) (s : State) :
    (b = expected s.sf s.rf ∧
        validate c b s = respond { cls := some c, acc := true, r := expected s.sf s.rf } (setRF b s)) ∨
      (b ≠ expected s.sf s.rf ∧ s.skip = true ∧
        validate c b s = respond { cls := some c, mis := true, acc := true, r := expected s.sf s.rf } (setRF b s)) ∨
      (b ≠ expected s.sf s.rf ∧ s.skip = false ∧
        validate c b s = respond { cls := some c, mis := true, r := expected s.sf s.rf } s) := by
  by_cases h : b = expected s.sf s.rf
  · exact .inl ⟨h, by simp [validate, h]⟩
  · cases hk : s.skip
    · exact .inr (.inr ⟨h, rfl, by simp [validate, h, hk]⟩)
    · exact .inr (.inl ⟨h, rfl, by simp [validate, h, hk]⟩)

/-- What any command leaves alone, and that it adds one response: the role, the bypass, the parameters and the words still
presented are unchanged. -/
def ExecFrame (s t : State) : Prop :=
  t.role = s.role ∧ t.skip = s.skip ∧ t.params = s.params ∧ t.pending = s.pending ∧
    ∃ w, t.responses = s.responses ++ [w]

theorem validate_execFrame (c : FrameClass) (b : Byte) (s : State) : ExecFrame s (validate c b s) := by
  obtain ⟨-, h⟩ | ⟨-, -, h⟩ | ⟨-, -, h⟩ := validate_cases c b s <;> rw [h] <;> exact ⟨rfl, rfl, rfl, rfl, _, rfl⟩

end Sys2Proof.Machine
end

