-- ==== Sys2Proof/Tests/Slice0.lean ====
section
/-! SUPPORT. Tests. Expected results are the words and vectors of spec/95_test_vectors.md, or the words of 30_encoding.md R37
written out bit by bit; each test names its source. After them, for every statement with hypotheses, states and operands
that meet them. -/

namespace Sys2Proof.Tests

open Sys2Proof Sys2Proof.Machine

/-- A state of the vectors: role, bypass, counters and one presented word, the parameters at their defaults. -/
def probe (role : Role) (skip : Bool) (sf rf : Byte) (w : Word) : State :=
  { sf := sf, rf := rf, role := role, skip := skip, params := Params.default, pending := [w], responses := [] }

/-- The same with U_OTHER_MODE = ACCEPT. -/
def probeAccept (role : Role) (skip : Bool) (sf rf : Byte) (w : Word) : State :=
  { probe role skip sf rf w with params := { Params.default with uOtherMode := .accept } }

/-- The outcome is a next state with the given counters and one response. -/
def answers (o : Host.Outcome State Fault Refusal) (sf rf : Byte) (response : Word) : Bool :=
  match o with
  | .next t => t.sf == sf && t.rf == rf && t.responses == [response] && t.pending == []
  | _ => false

/-! ### Well-formedness: one ill-formed term for each check (30_encoding.md R39) -/

theorem test_wf_legal : (commandFields 0x1030).wellFormed = true := by decide
theorem test_wf_opcode_zero : (CommandFields.mk 0 0 0 0).opAssigned = false := by decide
theorem test_wf_opcode_high : (CommandFields.mk 0x8 0 0 0).opAssigned = false := by decide
theorem test_wf_reserved : (CommandFields.mk 0x1 0b001 0 0).zClear = false := by decide
theorem test_wf_first_flag : (CommandFields.mk 0x1 0 1 0).fAllowed = false := by decide
theorem test_wf_operand : (CommandFields.mk 0x3 0 0 0x01).dAllowed = false := by decide

/-- 10_state.md R13. -/
theorem test_role_codes : Role.client.code = 0 ∧ Role.server.code = 1 := by decide

/-! ### Decoding: words written out from `OP[15:12] Z[11:9] F[8] D[7:0]` (30_encoding.md R37, R38) -/

theorem test_decode_check : decode 0b0001_000_0_10010011 = .instr (.check 0x93) := by decide
theorem test_decode_next_send_first : decode 0b0010_000_1_00000000 = .instr (.nextSend true) := by decide
theorem test_decode_next_send_cont : decode 0b0010_000_0_00000000 = .instr (.nextSend false) := by decide
theorem test_decode_get_rr : decode 0b0011_000_0_00000000 = .instr .getRR := by decide
theorem test_decode_get_ka : decode 0b0100_000_0_00000000 = .instr .getKA := by decide
theorem test_decode_reset : decode 0b0101_000_0_00000000 = .instr .reset := by decide
theorem test_decode_inc_rr : decode 0b0110_000_0_11100011 = .instr (.incRR 0xE3) := by decide
theorem test_decode_inc_ss : decode 0b0111_000_0_00001111 = .instr (.incSS 0x0F) := by decide

/-- 95_test_vectors.md section 3.7. -/
theorem test_decode_illegal :
    decode 0x0000 = .illegal .unassignedOpcode ∧ decode 0x8000 = .illegal .unassignedOpcode ∧
      decode 0xF123 = .illegal .unassignedOpcode ∧ decode 0x1200 = .illegal .reservedNotZero ∧
      decode 0x1800 = .illegal .reservedNotZero ∧ decode 0x2300 = .illegal .reservedNotZero ∧
      decode 0x7E00 = .illegal .reservedNotZero ∧ decode 0x1100 = .illegal .fixedFieldNotZero ∧
      decode 0x2001 = .illegal .fixedFieldNotZero ∧ decode 0x4080 = .illegal .fixedFieldNotZero ∧
      decode 0x6100 = .illegal .fixedFieldNotZero := by decide

/-- 95_test_vectors.md section 3.7: the response and the unchanged counters. -/
theorem test_illegal_word : answers (step (probe .client false 0x32 0x30 0x3100)) 0x32 0x30 0x8000 = true := by decide

/-! ### The commands: vectors of 95_test_vectors.md section 3, at most two each but for the paths of CHECK -/

theorem test_check_match : answers (step (probe .server false 0x31 0xFE 0x10F0)) 0x31 0xF0 0x41F0 = true := by decide
theorem test_check_rejected : answers (step (probe .client false 0x10 0x30 0x1030)) 0x10 0x30 0x4252 = true := by decide
theorem test_check_bypassed : answers (step (probe .client true 0x10 0x0E 0x1032)) 0x10 0x32 0x4330 = true := by decide
theorem test_check_s : answers (step (probe .server true 0x33 0x41 0x1009)) 0x33 0x71 0x3100 = true := by decide
theorem test_check_u_reset : answers (step (probe .client false 0x53 0x74 0x1093)) 0x10 0x0E 0x2100 = true := by decide
theorem test_check_u_other : answers (step (probe .server true 0x1E 0xEE 0x1053)) 0x1E 0x53 0x5310 = true := by decide
theorem test_check_u_other_accept :
    answers (step (probeAccept .server true 0x1E 0xEE 0x1053)) 0x1E 0xEE 0x5100 = true := by decide
theorem test_next_send_first : answers (step (probe .server false 0xF3 0x10 0x2100)) 0x14 0x10 0x0014 = true := by decide
theorem test_next_send_cont : answers (step (probe .client false 0x31 0x30 0x2000)) 0x32 0x30 0x0032 = true := by decide
theorem test_get_rr_wraps : answers (step (probe .server false 0xE2 0xEE 0x3000)) 0x13 0xEE 0x0011 = true := by decide
theorem test_get_ka_masks : answers (step (probe .server false 0xFE 0xEE 0x4000)) 0xFF 0xEE 0x00F1 = true := by decide
theorem test_reset_server : answers (step (probe .server false 0x53 0x74 0x5000)) 0x1E 0xEE 0x0000 = true := by decide
theorem test_reset_client : answers (step (probe .client true 0xA5 0x3C 0x5000)) 0x10 0x0E 0x0000 = true := by decide
theorem test_inc_rr_wraps : answers (step (probe .client false 0x10 0x0E 0x60EF)) 0x10 0x0E 0x001F = true := by decide
theorem test_inc_ss_wraps : answers (step (probe .server false 0x1E 0xEE 0x70FF)) 0x1E 0xEE 0x00F0 = true := by decide

/-- 30_encoding.md R43 and R44: a comment, a decimal operand, a pseudo-instruction, an operand out of range, a missing one. -/
theorem test_assembler :
    readLine ['I', 'N', 'C', '_', 'R', 'R', ' ', ' ', '2', '5', '5', ';', 'x'] = .command (.incRR 0xFF) ∧
      readLine (checkText ++ [' ', '0', 'x', '9', '3']) = .command (.check 0x93) ∧
      readLine nextSendContText = .command (.nextSend false) ∧
      readLine (incSSText ++ [' ', '2', '5', '6']) = .malformed ∧ readLine checkText = .malformed ∧
      readLine [' ', ';', 'x'] = .blank := by decide

/-! ### Witnesses: the hypotheses of each statement can be met, each clause on its own -/

/-- A fresh Server with the bypass on, and one of the variant with U_OTHER_MODE = ACCEPT. -/
def bypassed : State := State.construct Params.default .server true
def accepting : State := State.construct { Params.default with uOtherMode := .accept } .server false

theorem witness_OpcodeMapSelectsByMatchAndMask :
    (0x10FF : Word) &&& 0xFF00 = 0x1000 ∧ (0x2100 : Word) &&& 0xFEFF = 0x2000 ∧ (0x3000 : Word) &&& 0xFFFF = 0x3000 ∧
      (0x4000 : Word) &&& 0xFFFF = 0x4000 ∧ (0x5000 : Word) &&& 0xFFFF = 0x5000 ∧ (0x60FF : Word) &&& 0xFF00 = 0x6000 ∧
      (0x7000 : Word) &&& 0xFF00 = 0x7000 := by decide

theorem witness_EncodeOfDecode : decode 0x10FF = .instr (.check 0xFF) := by decide

theorem witness_IllegalWordsByThreeCases :
    (probe .client false 0x32 0x30 0x0000).pending = [0x0000] ∧ decode 0x0000 = .illegal .unassignedOpcode := by decide

theorem witness_StepRunsDecodedCommand :
    (probe .client false 0x10 0x0E 0x3000).pending = [0x3000] ∧ decode 0x3000 = .instr .getRR := by decide

theorem witness_StepWaitsWithNothingPresented : State.reset.pending = [] := by decide

theorem witness_RunAnswersEveryWord : 2 ≤ (present [0x0000, 0x2100] State.reset).pending.length := by decide

theorem witness_LaterCommandsAreNotSeen : (probe .client false 0x10 0x0E 0x3000).pending ≠ [] := by decide

theorem witness_ResetRestoresCounters : State.reset.params.clientSenderInit = 0x10 := by decide

theorem witness_ResetAndUResetAgree : (0x73 : Byte) = 0x73 ∨ (0x73 : Byte) = 0x93 := by decide

theorem witness_ResetAndUResetAgree_other : (0x93 : Byte) = 0x73 ∨ (0x93 : Byte) = 0x93 := by decide

theorem witness_ResetAndNotifyAreIdempotent : Instr.check 0x13 = .reset ∨ Instr.check 0x13 = .check 0x13 := by decide

theorem witness_CheckUResetBytes : (0x93 : Byte) = 0x73 ∨ (0x93 : Byte) = 0x93 := by decide

theorem witness_CheckSFrame : (0x01 : Byte)[0] = true ∧ (0x01 : Byte)[1] = false := by decide

theorem witness_CheckSFrame_high : (0xFD : Byte)[0] = true ∧ (0xFD : Byte)[1] = false := by decide

theorem witness_CheckIFrameMatch : (0x30 : Byte)[0] = false ∧ 0x30 = expected State.reset.sf State.reset.rf := by decide

theorem witness_CheckIFrameMismatchRejected :
    (0xFE : Byte)[0] = false ∧ 0xFE ≠ expected State.reset.sf State.reset.rf ∧ State.reset.skip = false := by decide

theorem witness_CheckIFrameMismatchBypassed :
    (0x00 : Byte)[0] = false ∧ 0x00 ≠ expected bypassed.sf bypassed.rf ∧ bypassed.skip = true := by decide

/-- The three clauses: under each mode and bypass a U_OTHER byte exists. -/
theorem witness_CheckUOtherByte :
    (0x03 : Byte)[0] = true ∧ (0x03 : Byte)[1] = true ∧ (0x03 : Byte) ≠ 0x13 ∧ (0x03 : Byte) ≠ 0x73 ∧
      (0x03 : Byte) ≠ 0x93 ∧ State.reset.params.uOtherMode = .asIFrame ∧ State.reset.skip = false ∧
      bypassed.params.uOtherMode = .asIFrame ∧ bypassed.skip = true ∧ accepting.params.uOtherMode = .accept := by decide

theorem witness_ExpectedByteByParity : (0x00 : Byte)[0] = false := by decide

/-- Both parities of `SF`, and an odd byte. -/
theorem witness_ExpectedByteFields :
    (0xFE : Byte)[0] = false ∧ State.reset.sf[0] = false ∧ (probe .client false 0x31 0x30 0x1000).sf[0] = true ∧
      (0xFF : Byte)[0] = true := by decide

theorem witness_ResponseReportsClass :
    (∀ b, Instr.reset ≠ .check b) ∧ (probe .client false 0x32 0x30 0xFFFF).pending = [0xFFFF] ∧
      decode 0xFFFF = .illegal .unassignedOpcode := ⟨fun _ h => (nomatch h), by decide, by decide⟩

theorem witness_ResponseReportsResultByte :
    (probe .client false 0x32 0x30 0x8000).pending = [0x8000] ∧ decode 0x8000 = .illegal .unassignedOpcode := by decide

theorem witness_CheckVerdictExact : State.reset.skip = false ∧ (0x30 : Byte)[0] = false := by decide

theorem witness_SequenceMismatchIsReported :
    (0x00 : Byte)[0] = false ∧ 0x00 ≠ expected State.reset.sf State.reset.rf := by decide

theorem witness_SequenceMismatchIsReported_uOther :
    (0xFF : Byte)[1] = true ∧ (0xFF : Byte) ≠ 0x13 ∧ (0xFF : Byte) ≠ 0x73 ∧ (0xFF : Byte) ≠ 0x93 ∧
      State.reset.params.uOtherMode = .asIFrame ∧ 0xFF ≠ expected State.reset.sf State.reset.rf := by decide

theorem witness_CheckWritesWithinFrame : (0x74 : Byte) ≠ 0x73 ∧ (0x74 : Byte) ≠ 0x93 ∧ ((0x73 : Byte) = 0x73 ∨ (0x73 : Byte) = 0x93) := by
  decide

/-- 95_test_vectors.md section 3.2: `CHECK 0x00` on a fresh Client is rejected with `0x4230`. -/
theorem witness_RejectionLeavesTheBlockAlone :
    exec (.check 0x00) State.reset = .next { State.reset with responses := [0x4230] } ∧ (0x4230 : Word)[8] = false :=
  ⟨by rfl, by decide⟩

theorem witness_NextSendFields : true = true ∧ false = false := by decide

theorem witness_GeneratorsIgnoreReceiverRoleAndSkip :
    Instr.getKA = .nextSend true ∨ Instr.getKA = .nextSend false ∨ Instr.getKA = .getRR ∨ Instr.getKA = .getKA := by
  decide

theorem witness_GeneratedBytePatterns : PollBitSet State.reset ∧ (Instr.getRR = .getRR ∨ Instr.getRR = .getKA) :=
  ⟨⟨by decide, by decide⟩, by decide⟩

theorem witness_EightFramesCloseTheCycle :
    (present (List.replicate 8 0x2000) State.reset).pending = List.replicate 8 0x2000 ++ [] := by decide

theorem witness_EightFramesCloseTheCycle_ready :
    (present (List.replicate 8 0x3000) State.reset).pending = List.replicate 8 0x3000 ++ [] := by decide

/-- 95_test_vectors.md section 3.8: the fresh Client and `CHECK 0x30`, after each of two generating commands. -/
theorem witness_GeneratingBeforeCheckingDecides :
    (0x30 : Byte)[0] = false ∧ State.reset.skip = false ∧
      (Instr.getRR = .nextSend true ∨ Instr.getRR = .nextSend false ∨ Instr.getRR = .getRR ∨ Instr.getRR = .getKA) ∧
      (Instr.nextSend true = .nextSend true ∨ Instr.nextSend true = .nextSend false ∨ Instr.nextSend true = .getRR ∨
        Instr.nextSend true = .getKA) := by decide

theorem witness_ReceiverFrameIsHidden :
    (∀ b, Instr.getRR = .check b → b[0] = true ∧
      (b[1] = false ∨ b = 0x13 ∨ b = 0x73 ∨ b = 0x93 ∨ State.reset.params.uOtherMode = .accept)) :=
  fun _ h => (nomatch h)

theorem witness_ReceiverFrameIsHidden_check :
    (∀ b, Instr.check 0x11 = .check b → b[0] = true ∧
      (b[1] = false ∨ b = 0x13 ∨ b = 0x73 ∨ b = 0x93 ∨ State.reset.params.uOtherMode = .accept)) := by
  intro b h
  cases h
  decide

/-- A GET_RR of a fresh Client: a step that changes `SF` and gives a response. -/
theorem witness_StepKeepsPollBit :
    PollBitSet (present [0x3000] State.reset) ∧
      step (present [0x3000] State.reset) = .next { State.reset with sf := 0x31, responses := [0x0031] } :=
  ⟨⟨by decide, by decide⟩, by rfl⟩

/-- `CHECK 0x30` of a fresh Client (95_test_vectors.md section 3.2): a step that writes `RF`. -/
theorem witness_StepKeepsReceiverEven :
    ReceiverEven (present [0x1030] State.reset) ∧
      step (present [0x1030] State.reset) = .next { State.reset with rf := 0x30, responses := [0x4130] } :=
  ⟨fun _ => by decide, by rfl⟩

theorem witness_StepKeepsResponsesValid :
    ResponsesValid (present [0x0000] State.reset) ∧
      step (present [0x0000] State.reset) = .next { State.reset with responses := [0x8000] } :=
  ⟨fun _ h => (nomatch h), by rfl⟩

theorem witness_InvariantsHoldAtConstruction : Params.default.clientSenderInit[4] = true := by decide

theorem witness_InstancesAreIndependent : (0 : Nat) ≠ 1 := by decide

/-- A fresh Client of the variant `CLIENT_SENDER_INIT = 0xFE` and a fresh Server (95_test_vectors.md program P4, run (b)). -/
theorem witness_PairInStepStaysInStep :
    InStep (State.construct { Params.default with clientSenderInit := 0xFE } .client false)
      (State.construct Params.default .server false) := ⟨by decide, by decide⟩

end Sys2Proof.Tests
end

section
/-! The initial values of the counters, and what `resetState` and construction do with them (10_state.md R16,
70_reset_and_hazards.md R91). -/

namespace Sys2Proof.Machine

@[simp] theorem initS_server (p : Params) : initS p .server = 0x1E := rfl

@[simp] theorem initR_server : initR .server = 0xEE := rfl

@[simp] theorem initR_client : initR .client = 0x0E := rfl

@[simp] theorem default_clientSenderInit : Params.default.clientSenderInit = 0x10 := rfl

/-- `resetState` as one record update: its effect on the counters and its frame together. -/
theorem resetState_eq (s : State) :
    resetState s = { s with sf := initS s.params s.role, rf := initR s.role } := rfl

/-- Settles O13: the four rows of the table of R16, the default of the Client's sender value, `resetState` as a record
update, and the four fields of a constructed instance. -/
theorem initialValuesByRole : Obligations.InitialValuesByRole :=
  ⟨fun p => ⟨initS_server p, initR_server, initS_client p, initR_client⟩,
    default_clientSenderInit,
    resetState_eq,
    fun p role skip => ⟨construct_role p role skip, construct_skip p role skip, construct_sf p role skip,
      construct_rf p role skip⟩⟩

end Sys2Proof.Machine
end

section
/-! Selecting a row of the opcode map: every mask covers `OP` and the rows' `OP` values differ, so a word selects at most one
row, and the row it selects is the one `decode` takes (30_encoding.md R38). -/

namespace Sys2Proof

/-- `OP`, bits 15 to 12 of a word, is fixed by every row of the opcode map. -/
theorem op_of_rowSelects {r : OpcodeRow} {w : Word} (hr : r ∈ opcodeRows) (hs : rowSelects r w = true) :
    w.extractLsb' 12 4 = r.pattern.extractLsb' 12 4 := by
  have hmask : ∀ r ∈ opcodeRows, r.mask.extractLsb' 12 4 = BitVec.allOnes 4 := by decide
  have hw : w &&& r.mask = r.pattern := by simpa [rowSelects] using hs
  rw [← hw, BitVec.extractLsb'_and, hmask r hr, BitVec.and_allOnes]

/-- No two rows of the opcode map have the same `OP`. -/
theorem opcodeRows_op_nodup : (opcodeRows.map fun r => r.pattern.extractLsb' 12 4).Nodup := by
  decide

/-- A word selects at most one row of the opcode map. -/
theorem rowSelects_unique {r q : OpcodeRow} {w : Word} (hr : r ∈ opcodeRows) (hq : q ∈ opcodeRows)
    (hrs : rowSelects r w = true) (hqs : rowSelects q w = true) : r = q :=
  List.inj_on_of_nodup_map opcodeRows_op_nodup hr hq
    ((op_of_rowSelects hr hrs).symm.trans (op_of_rowSelects hq hqs))

/-- The decoder gives the command of whichever row the word selects; the order of the rows has no effect. -/
theorem decode_of_rowSelects {r : OpcodeRow} {w : Word} (hr : r ∈ opcodeRows) (hs : rowSelects r w = true) :
    decode w = .instr (r.build w) := by
  obtain ⟨q, hq, hqs, hd⟩ | ⟨hnone, -⟩ := decode_cases w
  · rw [hd, rowSelects_unique hr hq hs hqs]
  · simp [hnone r hr] at hs

/-- `decode_of_rowSelects` for a row given by its place in the map. -/
theorem decode_of_row (n : Nat) {r : OpcodeRow} {w : Word} (hr : opcodeRows[n]? = some r) (hw : w &&& r.mask = r.pattern) :
    decode w = .instr (r.build w) :=
  decode_of_rowSelects (List.mem_of_getElem? hr) (by simpa [rowSelects] using hw)

/-- The field `F` is bit 8 of the word. -/
theorem commandFields_f_eq (w : Word) : (commandFields w).f = BitVec.ofBool w[8] := by
  apply BitVec.eq_of_getElem_eq
  intro i hi
  obtain rfl : i = 0 := by omega
  simp [commandFields]

/-- The operand of NEXT_SEND is bit 8 of the word. -/
theorem firstOperand_eq (w : Word) : firstOperand w = w[8] := by
  rw [firstOperand, commandFields_f_eq]
  cases w[8] <;> rfl

/-- Settles O2: each clause is the row at its place in the map, and that row builds the clause's command. -/
theorem opcodeMapSelectsByMatchAndMask : Obligations.OpcodeMapSelectsByMatchAndMask := by
  intro w
  have nextSend : w &&& 0xFEFF = 0x2000 → decode w = .instr (.nextSend w[8]) := fun h =>
    firstOperand_eq w ▸ decode_of_row 1 rfl h
  exact ⟨decode_of_row 0 rfl, nextSend, decode_of_row 2 rfl, decode_of_row 3 rfl, decode_of_row 4 rfl,
    decode_of_row 5 rfl, decode_of_row 6 rfl⟩

end Sys2Proof
end

section
/-! The legal words: those whose fields are well formed, the reading of R39, are those some row selects, the reading of R38
(30_encoding.md). -/

namespace Sys2Proof

/-- Two words with the same fields are the same word. -/
theorem commandFields_injective : Function.Injective commandFields := fun v w h => by
  rw [word_of_fields v, word_of_fields w, h]

/-- A word has the row's `match` under its mask when each of its four fields has. -/
theorem rowSelects_iff_fields (r : OpcodeRow) (w : Word) :
    rowSelects r w = true ↔
      (commandFields w).op &&& (commandFields r.mask).op = (commandFields r.pattern).op ∧
        (commandFields w).z &&& (commandFields r.mask).z = (commandFields r.pattern).z ∧
        (commandFields w).f &&& (commandFields r.mask).f = (commandFields r.pattern).f ∧
        (commandFields w).d &&& (commandFields r.mask).d = (commandFields r.pattern).d := by
  rw [rowSelects, beq_iff_eq, ← commandFields_injective.eq_iff]
  simp [commandFields, BitVec.extractLsb'_and]

/-- The seven assigned values of `OP`. -/
theorem opAssigned_iff (c : CommandFields) :
    c.opAssigned = true ↔
      c.op = 0x1 ∨ c.op = 0x2 ∨ c.op = 0x3 ∨ c.op = 0x4 ∨ c.op = 0x5 ∨ c.op = 0x6 ∨ c.op = 0x7 := by
  rw [CommandFields.opAssigned]
  generalize c.op = op
  revert op; decide

/-- The rows of the opcode map read field by field: `OP` and `Z` are fixed in each, and `F` and `D` where R37 leaves
the command no operand there. -/
theorem exists_rowSelects_iff_fields (w : Word) :
    (∃ r ∈ opcodeRows, rowSelects r w = true) ↔
      (commandFields w).z = 0 ∧
        (((commandFields w).op = 0x1 ∧ (commandFields w).f = 0) ∨
          ((commandFields w).op = 0x2 ∧ (commandFields w).d = 0) ∨
          (((commandFields w).op = 0x3 ∨ (commandFields w).op = 0x4 ∨ (commandFields w).op = 0x5) ∧
            (commandFields w).f = 0 ∧ (commandFields w).d = 0) ∨
          (((commandFields w).op = 0x6 ∨ (commandFields w).op = 0x7) ∧ (commandFields w).f = 0)) := by
  simp only [rowSelects_iff_fields]
  generalize commandFields w = c
  have op_mask : c.op &&& 15#4 = c.op := BitVec.and_allOnes
  have z_mask : c.z &&& 7#3 = c.z := BitVec.and_allOnes
  have f_mask : c.f &&& 1#1 = c.f := BitVec.and_allOnes
  have d_mask : c.d &&& 255#8 = c.d := BitVec.and_allOnes
  simp only [opcodeRows, BitVec.ofNat_eq_ofNat, List.mem_cons, List.not_mem_nil, or_false, commandFields,
    exists_eq_or_imp, BitVec.reduceExtractLsb', op_mask, z_mask, f_mask, BitVec.and_zero, and_true, d_mask, true_and,
    ↓existsAndEq]
  tauto

/-- `Z`, `F` and `D` of a well-formed word, as R39 has them. -/
theorem wellFormed_iff (c : CommandFields) :
    c.wellFormed = true ↔ c.opAssigned = true ∧ c.z = 0 ∧ (c.f = 0 ∨ c.op = 0x2) ∧
      (c.d = 0 ∨ c.op = 0x1 ∨ c.op = 0x6 ∨ c.op = 0x7) := by
  simp [CommandFields.wellFormed, CommandFields.zClear, CommandFields.fAllowed, CommandFields.dAllowed, and_assoc,
    or_assoc]

/-- The two readings of the encoding agree: some row selects the word exactly when no case of R39 holds. -/
theorem exists_rowSelects_iff_wellFormed (w : Word) :
    (∃ r ∈ opcodeRows, rowSelects r w = true) ↔ (commandFields w).wellFormed = true := by
  rw [exists_rowSelects_iff_fields, wellFormed_iff, opAssigned_iff]
  generalize commandFields w = c
  constructor
  · rintro ⟨hz, ⟨ho, hf⟩ | ⟨ho, hd⟩ | ⟨ho | ho | ho, hf, hd⟩ | ⟨ho | ho, hf⟩⟩ <;> simp [*]
  · rintro ⟨ho | ho | ho | ho | ho | ho | ho, hz, hf, hd⟩ <;> simp_all

/-- A word is illegal exactly when its fields are not well formed. -/
theorem decode_illegal_iff_not_wellFormed (w : Word) :
    (∃ why, decode w = .illegal why) ↔ ¬ (commandFields w).wellFormed = true := by
  rw [← exists_rowSelects_iff_wellFormed]
  obtain ⟨r, hr, hs, hd⟩ | ⟨hnone, hd⟩ := decode_cases w
  · have hsome : ∃ r ∈ opcodeRows, rowSelects r w = true := ⟨r, hr, hs⟩
    simp [hd, hsome]
  · have hno : ¬ ∃ r ∈ opcodeRows, rowSelects r w = true := by
      rintro ⟨r, hr, hs⟩
      simp [hnone r hr] at hs
    simp [hd, hno]

/-- The fields are not well formed exactly in the three cases of R39. -/
theorem not_wellFormed_iff (c : CommandFields) :
    ¬ c.wellFormed = true ↔
      (c.op = 0 ∨ 8 ≤ c.op.toNat) ∨ c.z ≠ 0 ∨ (c.f = 1 ∧ c.op ≠ 0x2) ∨
        (c.d ≠ 0 ∧ c.op ≠ 0x1 ∧ c.op ≠ 0x6 ∧ c.op ≠ 0x7) := by
  have hf : c.f = 1 ↔ ¬ c.f = 0 := by
    generalize c.f = f
    revert f; decide
  have ho : c.opAssigned = true ↔ ¬ (c.op = 0 ∨ 8 ≤ c.op.toNat) := by
    simp [CommandFields.opAssigned]
  rw [wellFormed_iff, hf, ho]
  tauto

end Sys2Proof

namespace Sys2Proof.Machine

/-- Rejecting a word changes nothing but the record of responses (60_exceptions.md R80). -/
theorem rejectWord_eq (s : State) : rejectWord s = { s with responses := s.responses ++ [0x8000] } := by
  rw [← packResponse_illegal]; rfl

/-- Settles O5: R39's cases are what makes the fields ill formed, the zero word falls under the first, and an illegal word
is taken and rejected. -/
theorem illegalWordsByThreeCases : Obligations.IllegalWordsByThreeCases := by
  refine ⟨fun w => ?_, ⟨.unassignedOpcode, by decide⟩, fun s w ws why hp hd => ?_⟩
  · have hf : w[8] = true ↔ (commandFields w).f = 1 := by
      rw [commandFields_f_eq]
      cases w[8] <;> decide
    rw [hf, decode_illegal_iff_not_wellFormed]
    exact not_wellFormed_iff (commandFields w)
  · rw [step_illegal hp hd, rejectWord_eq]

end Sys2Proof.Machine
end

section
/-! What each command answers: the class and the result byte of its response (30_encoding.md R41 and R42). -/

namespace Sys2Proof.Machine

/-- CHECK of `b` compares it with the expected byte: class I, or class U_OTHER under `AS_I_FRAME` (40_check_frame.md R48). -/
def compares (b : Byte) (s : State) : Bool :=
  classify b == .i || (classify b == .uOther && s.params.uOtherMode == .asIFrame)

/-- Which bytes are compared, from their bits. -/
theorem compares_iff (b : Byte) (s : State) :
    compares b s = true ↔
      b[0] = false ∨ (b[1] = true ∧ b ≠ 0x13 ∧ b ≠ 0x73 ∧ b ≠ 0x93 ∧ s.params.uOtherMode = .asIFrame) := by
  obtain ⟨-, -, -, hi, ho⟩ := classify_iff b
  simp only [compares, Bool.or_eq_true, Bool.and_eq_true, beq_iff_eq, hi, ho]
  cases b[0] <;> simp [and_assoc]

/-- A byte that is compared goes to the comparison, under its own class. -/
theorem execCheck_of_compares {b : Byte} {s : State} (h : compares b s = true) :
    execCheck b s = .next (validate (classify b) b s) := by
  simp only [compares, Bool.or_eq_true, Bool.and_eq_true, beq_iff_eq] at h
  obtain hc | ⟨hc, hm⟩ := h
  · simp [execCheck, hc]
  · simp [execCheck, hc, hm]

/-- Any other byte is accepted under its own class, whatever becomes of the counters. -/
theorem execCheck_of_not_compares {b : Byte} {s : State} (h : compares b s = false) :
    ∃ u, u.responses = s.responses ∧ execCheck b s = .next (respond (acceptResponse (classify b)) u) := by
  cases hc : classify b with
  | uiNotify => exact ⟨s, rfl, by simp [execCheck, hc]⟩
  | uReset => exact ⟨resetState s, rfl, by simp [execCheck, hc]⟩
  | s => exact ⟨setRF (incRR s.rf) s, rfl, by simp [execCheck, hc]⟩
  | i => simp [compares, hc] at h
  | uOther =>
    cases hm : s.params.uOtherMode with
    | accept => exact ⟨s, rfl, by simp [execCheck, hc, hm]⟩
    | asIFrame => simp [compares, hc, hm] at h

/-- The comparison gives one response, with the class it is given and the byte expected before any write. -/
theorem validate_responds (c : FrameClass) (b : Byte) (s : State) :
    ∃ mis acc, (validate c b s).responses =
      s.responses ++ [packResponse { cls := some c, mis := mis, acc := acc, r := expected s.sf s.rf }] := by
  obtain ⟨-, h⟩ | ⟨-, -, h⟩ | ⟨-, -, h⟩ := validate_cases c b s <;> exact ⟨_, _, by rw [h]; rfl⟩

/-- CHECK completes with one response, which has the byte's class, and the expected byte exactly when it compares. -/
theorem exec_check_responds (b : Byte) (s : State) :
    ∃ t a, exec (.check b) s = .next t ∧ t.responses = s.responses ++ [packResponse a] ∧
      a.cls = some (classify b) ∧ a.r = if compares b s = true then expected s.sf s.rf else 0x00 := by
  cases h : compares b s
  · obtain ⟨u, hu, he⟩ := execCheck_of_not_compares h
    exact ⟨_, acceptResponse (classify b), he, by rw [respond_responses, hu], rfl, rfl⟩
  · obtain ⟨mis, acc, hr⟩ := validate_responds (classify b) b s
    exact ⟨_, _, execCheck_of_compares h, hr, rfl, rfl⟩

/-- Every other command completes with one response that is only a result byte. -/
theorem exec_result_of_ne_check {i : Instr} (hi : ∀ b, i ≠ .check b) (s : State) :
    ∃ t r, exec i s = .next t ∧ t.responses = s.responses ++ [packResponse (resultResponse r)] := by
  cases i with
  | check b => exact absurd rfl (hi b)
  | nextSend first => exact ⟨_, _, rfl, generate_responses ..⟩
  | getRR => exact ⟨_, _, rfl, generate_responses ..⟩
  | getKA => exact ⟨_, _, rfl, generate_responses ..⟩
  | reset => exact ⟨_, _, rfl, respond_responses ..⟩
  | incRR v => exact ⟨_, _, rfl, respond_responses ..⟩
  | incSS v => exact ⟨_, _, rfl, respond_responses ..⟩

/-- A step on an illegal word completes with the response to an illegal word alone. -/
theorem step_illegal_responds {s : State} {w : Word} {ws : List Word} {why : IllegalReason} (hp : s.pending = w :: ws)
    (hd : decode w = .illegal why) :
    ∃ t, step s = .next t ∧ t.responses = s.responses ++ [packResponse illegalResponse] :=
  ⟨_, step_illegal hp hd, rejectWord_responses _⟩

/-- The class code of a byte, from its value and its low bits (30_encoding.md R41). -/
theorem classCode_classify (b : Byte) :
    classCode (some (classify b)) =
      if b = 0x13 then 0b001 else if b = 0x73 ∨ b = 0x93 then 0b010 else if b[0] = false then 0b100
      else if b[1] = false then 0b011 else 0b101 := by
  split_ifs with hn hr hi hs
  · rw [hn, classify_notify]; rfl
  · rw [classify_of_uReset hr]; rfl
  · rw [classify_of_i hi]; rfl
  · rw [classify_of_s (by simpa using hi) hs]; rfl
  · obtain ⟨h7, h9⟩ := not_or.mp hr
    rw [classify_of_uOther (by simpa using hi) (by simpa using hs) hn h7 h9]; rfl

/-- Settles O27: the class field of the one response of each command, by the three kinds of response. -/
theorem responseReportsClass : Obligations.ResponseReportsClass := by
  refine ⟨fun s b => ?_, fun s i hi => ?_, fun s w ws why hp hd => ?_⟩
  · obtain ⟨t, a, he, hr, hcls, -⟩ := exec_check_responds b s
    exact ⟨t, _, he, hr, by rw [← classCode_classify, ← hcls]; exact packResponse_cls a⟩
  · obtain ⟨t, r, he, hr⟩ := exec_result_of_ne_check hi s
    exact ⟨t, _, he, hr, packResponse_cls _⟩
  · obtain ⟨t, he, hr⟩ := step_illegal_responds hp hd
    exact ⟨t, _, he, hr, packResponse_cls _⟩

/-- Settles O59: the result byte of the one response of each command. -/
theorem responseReportsResultByte : Obligations.ResponseReportsResultByte := by
  refine ⟨fun s i => ?_, fun s w ws why hp hd => ?_⟩
  · cases i with
    | check b =>
      obtain ⟨t, a, he, hr, -, hres⟩ := exec_check_responds b s
      simp only [compares_iff] at hres
      exact ⟨t, _, he, hr, (packResponse_r a).trans hres⟩
    | nextSend first =>
      exact ⟨_, _, rfl, generate_responses .., (packResponse_r _).trans BitVec.and_allOnes⟩
    | getRR => exact ⟨_, _, rfl, generate_responses .., packResponse_r _⟩
    | getKA => exact ⟨_, _, rfl, generate_responses .., packResponse_r _⟩
    | reset => exact ⟨_, _, rfl, respond_responses .., packResponse_r _⟩
    | incRR v => exact ⟨_, _, rfl, respond_responses .., packResponse_r _⟩
    | incSS v => exact ⟨_, _, rfl, respond_responses .., packResponse_r _⟩
  · obtain ⟨t, he, hr⟩ := step_illegal_responds hp hd
    exact ⟨t, _, he, hr, packResponse_r _⟩

end Sys2Proof.Machine
end

section
/-! The two pseudo-instructions (30_encoding.md R44). -/

namespace Sys2Proof.Machine

/-- A line that is one of the two names, without comment or separator, reads as what the name expands to. -/
theorem readLine_pseudo :
    readLine nextSendFirstText = .command (Pseudo.expand .nextSendFirst) ∧
      readLine nextSendContText = .command (Pseudo.expand .nextSendCont) := by
  decide

/-- The words of the two forms of NEXT_SEND. -/
theorem encode_nextSend (first : Bool) : encode (.nextSend first) = if first then 0x2100 else 0x2000 := by
  cases first <;> decide

/-- Settles O58: each pseudo-instruction is a form of NEXT_SEND by definition. -/
theorem pseudoInstructionsExpand : Obligations.PseudoInstructionsExpand :=
  ⟨rfl, encode_nextSend true, rfl, encode_nextSend false, readLine_pseudo⟩

end Sys2Proof.Machine
end

section
/-! The paths of CHECK by the bits of the byte, each as one record update that shows what is written, what is left alone and
the response word (40_check_frame.md R47 to R56). -/

namespace Sys2Proof.Machine

/-- `respond` as one record update. -/
theorem respond_eq (a : Response) (s : State) :
    respond a s = { s with responses := s.responses ++ [packResponse a] } := rfl

/-- Writing `RF` and responding as one record update. -/
theorem respond_setRF_eq (a : Response) (v : Byte) (s : State) :
    respond a (setRF v s) = { s with rf := v, responses := s.responses ++ [packResponse a] } := rfl

/-- Resetting the counters and responding as one record update. -/
theorem respond_resetState_eq (a : Response) (s : State) :
    respond a (resetState s) =
      { s with sf := initS s.params s.role, rf := initR s.role, responses := s.responses ++ [packResponse a] } := rfl

/-- The comparison of an equal byte (40_check_frame.md R53). -/
theorem validate_of_eq {b : Byte} {s : State} (c : FrameClass) (h : b = expected s.sf s.rf) :
    validate c b s = { s with
      rf := b, responses := s.responses ++ [packResponse { cls := some c, acc := true, r := expected s.sf s.rf }] } := by
  obtain ⟨-, hv⟩ | ⟨hne, -, -⟩ | ⟨hne, -, -⟩ := validate_cases c b s
  · rw [hv, respond_setRF_eq]
  · exact absurd h hne
  · exact absurd h hne

/-- The comparison of another byte with the bypass off (40_check_frame.md R54). -/
theorem validate_of_ne_of_skip_off {b : Byte} {s : State} (c : FrameClass) (h : b ≠ expected s.sf s.rf)
    (hk : s.skip = false) :
    validate c b s = { s with
      responses := s.responses ++ [packResponse { cls := some c, mis := true, r := expected s.sf s.rf }] } := by
  obtain ⟨heq, -⟩ | ⟨-, hon, -⟩ | ⟨-, -, hv⟩ := validate_cases c b s
  · exact absurd heq h
  · simp [hk] at hon
  · rw [hv, respond_eq]

/-- The comparison of another byte with the bypass on (40_check_frame.md R55). -/
theorem validate_of_ne_of_skip_on {b : Byte} {s : State} (c : FrameClass) (h : b ≠ expected s.sf s.rf)
    (hk : s.skip = true) :
    validate c b s = { s with
      rf := b
      responses :=
        s.responses ++ [packResponse { cls := some c, mis := true, acc := true, r := expected s.sf s.rf }] } := by
  obtain ⟨heq, -⟩ | ⟨-, -, hv⟩ | ⟨-, hoff, -⟩ := validate_cases c b s
  · exact absurd heq h
  · rw [hv, respond_setRF_eq]
  · simp [hk] at hoff

/-- CHECK of an I-pattern byte is the comparison under class I. -/
theorem exec_check_of_i {b : Byte} (h : b[0] = false) (s : State) :
    exec (.check b) s = .next (validate .i b s) := by
  have hc := execCheck_of_compares ((compares_iff b s).2 (.inl h))
  rwa [classify_of_i h] at hc

/-- CHECK of a U_OTHER byte under `AS_I_FRAME` is the comparison under class U_OTHER (40_check_frame.md R56). -/
theorem exec_check_of_uOther_asIFrame {b : Byte} {s : State} (hc : classify b = .uOther)
    (hm : s.params.uOtherMode = .asIFrame) : exec (.check b) s = .next (validate .uOther b s) := by
  simp [exec, execCheck, hc, hm]

/-- CHECK of a U_OTHER byte under `ACCEPT` only responds (40_check_frame.md R56). -/
theorem exec_check_of_uOther_accept {b : Byte} {s : State} (hc : classify b = .uOther)
    (hm : s.params.uOtherMode = .accept) : exec (.check b) s = .next (respond (acceptResponse .uOther) s) := by
  simp [exec, execCheck, hc, hm]

/-- CHECK of an S-frame byte advances `RF` (40_check_frame.md R52). -/
theorem exec_check_of_s {b : Byte} (hc : classify b = .s) (s : State) :
    exec (.check b) s = .next (respond (acceptResponse .s) (setRF (incRR s.rf) s)) := by
  simp [exec, execCheck, hc]

/-- CHECK of a U-reset byte resets the counters (40_check_frame.md R51). -/
theorem exec_check_of_uReset {b : Byte} (hc : classify b = .uReset) (s : State) :
    exec (.check b) s = .next (respond (acceptResponse .uReset) (resetState s)) := by
  simp [exec, execCheck, hc]

/-- CHECK of the notify byte only responds (40_check_frame.md R50). -/
theorem exec_check_notify (s : State) :
    exec (.check 0x13) s = .next (respond (acceptResponse .uiNotify) s) := by
  simp only [exec, execCheck, classify_notify]

/-- An odd byte is not the expected one, which is even. -/
theorem ne_expected_of_odd {b : Byte} (h : b[0] = true) (sf rf : Byte) : b ≠ expected sf rf := by
  rintro rfl
  simp at h

/-- Settles O18: the notify path writes nothing. -/
theorem checkNotifyByte : Obligations.CheckNotifyByte := by
  intro s
  rw [exec_check_notify, respond_eq, packResponse_accept]

/-- Settles O19: both bytes take the path that resets the counters. -/
theorem checkUResetBytes : Obligations.CheckUResetBytes := by
  intro s b hb
  rw [exec_check_of_uReset (classify_of_uReset hb), respond_resetState_eq, packResponse_accept]

/-- Settles O20: the class of the byte is fixed by its two low bits, and its path reads only `RF`. -/
theorem checkSFrame : Obligations.CheckSFrame := by
  intro s b h0 h1
  rw [exec_check_of_s (classify_of_s h0 h1), respond_setRF_eq, packResponse_accept]

/-- Settles O21: the comparison of an equal byte; the byte reported is the one received. -/
theorem checkIFrameMatch : Obligations.CheckIFrameMatch := by
  intro s b h0 heq
  obtain ⟨hword, -⟩ := packResponse_compare b
  rw [exec_check_of_i h0, validate_of_eq .i heq, ← heq, hword]

/-- Settles O22: the comparison of another byte with the bypass off. -/
theorem checkIFrameMismatchRejected : Obligations.CheckIFrameMismatchRejected := by
  intro s b h0 hne hk
  obtain ⟨-, hword, -⟩ := packResponse_compare (expected s.sf s.rf)
  rw [exec_check_of_i h0, validate_of_ne_of_skip_off .i hne hk, hword]

/-- Settles O23: the comparison of another byte with the bypass on. -/
theorem checkIFrameMismatchBypassed : Obligations.CheckIFrameMismatchBypassed := by
  intro s b h0 hne hk
  obtain ⟨-, -, hword, -⟩ := packResponse_compare (expected s.sf s.rf)
  rw [exec_check_of_i h0, validate_of_ne_of_skip_on .i hne hk, hword]

/-- Settles O24: under `AS_I_FRAME` a comparison that an odd byte always fails, under `ACCEPT` a response alone. -/
theorem checkUOtherByte : Obligations.CheckUOtherByte := by
  refine ⟨rfl, fun s b h0 h1 hn h7 h9 => ?_⟩
  have hc : classify b = .uOther := classify_of_uOther h0 h1 hn h7 h9
  have hne : b ≠ expected s.sf s.rf := ne_expected_of_odd h0 s.sf s.rf
  obtain ⟨-, -, -, hrejected, hbypassed⟩ := packResponse_compare (expected s.sf s.rf)
  split
  · next hm hk => rw [exec_check_of_uOther_asIFrame hc hm, validate_of_ne_of_skip_off .uOther hne hk, hrejected]
  · next hm hk => rw [exec_check_of_uOther_asIFrame hc hm, validate_of_ne_of_skip_on .uOther hne hk, hbypassed]
  · next hm => rw [exec_check_of_uOther_accept hc hm, respond_eq, packResponse_accept]

/-- Settles O25: the two branches of the formula, and the result byte of a CHECK that compares. -/
theorem expectedByteByParity : Obligations.ExpectedByteByParity := by
  refine ⟨fun sf rf => ?_, fun s b h0 => ?_⟩
  · cases h : sf[0] <;> simp [expected, h]
  · obtain ⟨t, a, he, hr, -, hres⟩ := exec_check_responds b s
    rw [if_pos ((compares_iff b s).2 (.inl h0))] at hres
    exact ⟨t, _, he, hr, (packResponse_r a).trans hres⟩

end Sys2Proof.Machine
end

section
/-! The words of the rows with a byte operand, written as the row's `match` with the operand in bits 7 to 0 (30_encoding.md
R37 and R38). -/

namespace Sys2Proof

/-- A byte set in the low bits of a `match` is cleared by the mask of the byte-operand rows. -/
theorem or_setWidth_and_mask {p : Word} (hp : p &&& 0xFF00 = p) (v : Byte) : (p ||| v.setWidth 16) &&& 0xFF00 = p := by
  have hv : v.setWidth 16 &&& (0xFF00 : Word) = 0 := by revert v; decide
  rw [BitVec.and_or_distrib_right, hp, hv]
  exact BitVec.or_zero

/-- A byte set in the low bits of a `match` is the operand of the word. -/
theorem byteOperand_or_setWidth {p : Word} (hp : p &&& 0xFF00 = p) (v : Byte) :
    byteOperand (p ||| v.setWidth 16) = v := by
  have hlow : (p &&& 0xFF00).extractLsb' 0 8 = 0 := by
    rw [BitVec.extractLsb'_and]
    exact BitVec.and_zero
  have hv : (v.setWidth 16).extractLsb' 0 8 = v := by
    simp [BitVec.extractLsb'_setWidth_of_le]
  rw [hp] at hlow
  calc byteOperand (p ||| v.setWidth 16)
      = p.extractLsb' 0 8 ||| (v.setWidth 16).extractLsb' 0 8 := BitVec.extractLsb'_or
    _ = v := by rw [hlow, hv]; exact BitVec.zero_or

/-- The decoder gives back the operand of a byte-operand row, given by its place in the map. -/
theorem decode_of_byteRow (n : Nat) {m : String} {p : Word} {build : Byte → Instr}
    (hr : opcodeRows[n]? = some ⟨m, p, 0xFF00, fun w => build (byteOperand w)⟩) (hp : p &&& 0xFF00 = p) (v : Byte) :
    decode (p ||| v.setWidth 16) = .instr (build v) := by
  calc decode (p ||| v.setWidth 16)
      = .instr (build (byteOperand (p ||| v.setWidth 16))) := decode_of_row n hr (or_setWidth_and_mask hp v)
    _ = .instr (build v) := by rw [byteOperand_or_setWidth hp v]

end Sys2Proof
end

section
/-! INC_RR and INC_SS: the answer is the increment of the operand, and the response is all that changes
(41_sequence_increment.md R61 and R64). -/

namespace Sys2Proof.Machine

/-- INC_RR as one record update. -/
theorem exec_incRR (v : Byte) (s : State) :
    exec (.incRR v) s = .next { s with responses := s.responses ++ [(incRR v).setWidth 16] } := by
  rw [← packResponse_result]; rfl

/-- INC_SS as one record update. -/
theorem exec_incSS (v : Byte) (s : State) :
    exec (.incSS v) s = .next { s with responses := s.responses ++ [(incSS v).setWidth 16] } := by
  rw [← packResponse_result]; rfl

/-- Settles O32: the sixth row of the opcode map, and `incRR` by its formula (R59). -/
theorem incRRRespondsWithIncrement : Obligations.IncRRRespondsWithIncrement :=
  ⟨decode_of_byteRow 5 rfl rfl, fun s v => exec_incRR v s⟩

/-- Settles O33: the seventh row of the opcode map, and `incSS` by its formula (R62). -/
theorem incSSRespondsWithIncrement : Obligations.IncSSRespondsWithIncrement :=
  ⟨decode_of_byteRow 6 rfl rfl, fun s v => exec_incSS v s⟩

end Sys2Proof.Machine
end

section
/-! NEXT_SEND, GET_RR and GET_KA: the new `SF` and the response are functions of the old `SF` alone, and nothing else changes
(42_frame_generation.md R67, R70, R72 and R74). -/

namespace Sys2Proof.Machine

/-- The shared end of the generating commands as one record update. -/
theorem generate_eq (v mask : Byte) (s : State) :
    generate v mask s = { s with sf := v, responses := s.responses ++ [(v &&& mask).setWidth 16] } := by
  rw [← packResponse_result]; rfl

/-- NEXT_SEND as one record update: the operand chooses the new `SF`, and the response is all of it. -/
theorem exec_nextSend (first : Bool) (s : State) :
    exec (.nextSend first) s = .next { s with
      sf := if first then incRR (incSS s.sf) else incSS s.sf
      responses := s.responses ++ [(if first then incRR (incSS s.sf) else incSS s.sf).setWidth 16] } := by
  have whole (v : Byte) : v &&& 0xFF = v := BitVec.and_allOnes
  rw [exec, execNextSend, generate_eq, whole]

/-- GET_RR as one record update. -/
theorem exec_getRR (s : State) :
    exec .getRR s = .next { s with
      sf := incRR (s.sf ||| 1), responses := s.responses ++ [(incRR (s.sf ||| 1) &&& 0xF1).setWidth 16] } := by
  rw [exec, execGetRR, generate_eq]

/-- GET_KA as one record update. -/
theorem exec_getKA (s : State) :
    exec .getKA s = .next { s with
      sf := s.sf ||| 1, responses := s.responses ++ [((s.sf ||| 1) &&& 0xF1).setWidth 16] } := by
  rw [exec, execGetKA, generate_eq]

/-- What a generating command writes to `SF` and the byte it returns are two functions of `SF`, the same in every state. -/
theorem exec_generator_of_sf {i : Instr}
    (hi : i = .nextSend true ∨ i = .nextSend false ∨ i = .getRR ∨ i = .getKA) :
    ∃ new result : Byte → Byte, ∀ s : State,
      exec i s = .next { s with sf := new s.sf, responses := s.responses ++ [(result s.sf).setWidth 16] } := by
  obtain rfl | rfl | rfl | rfl := hi
  · exact ⟨fun v => incRR (incSS v), fun v => incRR (incSS v), exec_nextSend true⟩
  · exact ⟨incSS, incSS, exec_nextSend false⟩
  · exact ⟨fun v => incRR (v ||| 1), fun v => incRR (v ||| 1) &&& 0xF1, exec_getRR⟩
  · exact ⟨fun v => v ||| 1, fun v => (v ||| 1) &&& 0xF1, exec_getKA⟩

/-- Settles O43: the value and the response are those of `SF`, and `MIS` and `ILL` lie above the result byte. -/
theorem generatorsIgnoreReceiverRoleAndSkip : Obligations.GeneratorsIgnoreReceiverRoleAndSkip := by
  intro s i hi
  obtain ⟨new, result, hexec⟩ := exec_generator_of_sf hi
  exact ⟨new s.sf, (result s.sf).setWidth 16, by simp, by simp,
    fun rf role skip => hexec { s with rf := rf, role := role, skip := skip }⟩

/-- Settles O36: both words select the second row of the opcode map, which builds NEXT_SEND with their bit 8. -/
theorem nextSendUpdatesSF : Obligations.NextSendUpdatesSF :=
  ⟨decode_of_row 1 rfl (by decide), decode_of_row 1 rfl (by decide),
    fun s => ⟨exec_nextSend true s, exec_nextSend false s⟩⟩

/-- Settles O39: the third row of the opcode map, and GET_RR as one record update. -/
theorem getRRUpdatesSF : Obligations.GetRRUpdatesSF :=
  ⟨decode_of_row 2 rfl (by decide), exec_getRR⟩

/-- Settles O41: the fourth row of the opcode map, and GET_KA as one record update. -/
theorem getKAUpdatesSF : Obligations.GetKAUpdatesSF :=
  ⟨decode_of_row 3 rfl (by decide), exec_getKA⟩

end Sys2Proof.Machine
end

section
/-! RESET: both counters take their role-based initial values, whatever they held (43_sequence_reset.md R76). -/

namespace Sys2Proof.Machine

/-- RESET as one record update. -/
theorem exec_reset (s : State) :
    exec .reset s = .next { s with
      sf := initS s.params s.role, rf := initR s.role, responses := s.responses ++ [0x0000] } := by
  rw [exec, execReset, respond_resetState_eq, packResponse_result]; rfl

/-- RESET changes no counter that already holds its initial value. -/
theorem exec_reset_of_initial {s : State} (hs : s.sf = initS s.params s.role) (hr : s.rf = initR s.role) :
    exec .reset s = .next { s with responses := s.responses ++ [0x0000] } := by
  rw [exec_reset, ← hs, ← hr]

/-- With the Client's value `0x10` the initial sender counter is even in both roles. -/
theorem initS_parity {p : Params} (hp : p.clientSenderInit = 0x10) (r : Role) : (initS p r)[0] = false := by
  cases r with
  | client => rw [initS_client, hp]; decide
  | server => rw [initS_server]; decide

/-- Settles O15: the fifth row of the opcode map, RESET as one record update, a second RESET from counters that are initial
already, and the parity of the initial sender counter. -/
theorem resetRestoresCounters : Obligations.ResetRestoresCounters :=
  ⟨decode_of_row 4 rfl (by decide), fun s =>
    ⟨_, exec_reset s, rfl, exec_reset_of_initial rfl rfl, fun hp => initS_parity hp s.role⟩⟩

end Sys2Proof.Machine
end

section
/-! The sequence mismatch of a CHECK that compares, the bypass being the `ACC` of its response (60_exceptions.md R79). -/

namespace Sys2Proof.Machine

/-- The response to a byte that was compared and differs: `MIS` is set, and `ACC` is the bypass (60_exceptions.md R79). -/
def mismatchResponse (b : Byte) (s : State) : Response :=
  { cls := some (classify b), mis := true, acc := s.skip, r := expected s.sf s.rf }

/-- CHECK of a byte that is compared and differs gives that response, and writes `RF` under the bypass alone. -/
theorem exec_check_of_mismatch {b : Byte} {s : State} (hc : compares b s = true) (hne : b ≠ expected s.sf s.rf) :
    exec (.check b) s =
      .next (if s.skip then { s with rf := b, responses := s.responses ++ [packResponse (mismatchResponse b s)] }
        else { s with responses := s.responses ++ [packResponse (mismatchResponse b s)] }) := by
  rw [exec, execCheck_of_compares hc, mismatchResponse]
  split
  · next hk => rw [validate_of_ne_of_skip_on _ hne hk, hk]
  · next hk => rw [validate_of_ne_of_skip_off _ hne (eq_false_of_ne_true hk), eq_false_of_ne_true hk]

/-- A byte that is compared has the class code of an I byte or of a U_OTHER byte, by its bit 0 (30_encoding.md R41). -/
theorem classCode_of_compares {b : Byte} {s : State} (h : compares b s = true) :
    classCode (some (classify b)) = if b[0] = false then 0b100 else 0b101 := by
  obtain hi | ⟨h1, hn, h7, h9, -⟩ := (compares_iff b s).1 h
  · rw [classify_of_i hi, if_pos hi]; rfl
  · rw [classCode_classify, if_neg hn, if_neg (not_or.2 ⟨h7, h9⟩)]; simp [h1]

/-- Settles O29: the effect of a mismatch, and the five fields of its response. -/
theorem sequenceMismatchIsReported : Obligations.SequenceMismatchIsReported := by
  intro s b hb hne
  have hc : compares b s = true := (compares_iff b s).2 hb
  exact ⟨packResponse (mismatchResponse b s), exec_check_of_mismatch hc hne, packResponse_acc _, packResponse_mis _,
    packResponse_ill _, (packResponse_cls _).trans (classCode_of_compares hc), packResponse_r _⟩

end Sys2Proof.Machine
end

section
/-! The decoder and the encoder are inverse to each other between the legal words and the commands, and a presented
command word runs as its command (30_encoding.md section 2, 20_memory.md section 3). -/

namespace Sys2Proof

/-- A command word with `F` 0 is its `OP` above the byte `D`. -/
theorem commandWord_zero (op : BitVec 4) (d : Byte) : commandWord op 0 d = fieldAt 12 op ||| d.setWidth 16 := by
  simp [commandWord, fieldAt]

/-- The word of CHECK is the row's `match` with the operand in the low byte. -/
theorem encode_check (b : Byte) : encode (.check b) = 0x1000 ||| b.setWidth 16 := commandWord_zero 0x1 b

/-- The word of INC_RR, likewise. -/
theorem encode_incRR (v : Byte) : encode (.incRR v) = 0x6000 ||| v.setWidth 16 := commandWord_zero 0x6 v

/-- The word of INC_SS, likewise. -/
theorem encode_incSS (v : Byte) : encode (.incSS v) = 0x7000 ||| v.setWidth 16 := commandWord_zero 0x7 v

/-- Settles O3: the command's word selects the command's row, and the row reads the operand where the encoder puts it. -/
theorem decodeOfEncode : Obligations.DecodeOfEncode := by
  intro i
  cases i with
  | check b => rw [encode_check]; exact decode_of_byteRow 0 rfl rfl b
  | nextSend first => cases first <;> exact decode_of_row 1 rfl (by decide)
  | getRR => exact decode_of_row 2 rfl (by decide)
  | getKA => exact decode_of_row 3 rfl (by decide)
  | reset => exact decode_of_row 4 rfl (by decide)
  | incRR v => rw [encode_incRR]; exact decode_of_byteRow 5 rfl rfl v
  | incSS v => rw [encode_incSS]; exact decode_of_byteRow 6 rfl rfl v

/-- A word with `Z` 0 is the command word of its other three fields. -/
theorem commandWord_of_fields {w : Word} (hz : (commandFields w).z = 0) :
    commandWord (commandFields w).op (commandFields w).f (commandFields w).d = w := by
  conv_rhs => rw [word_of_fields w, hz]
  simp [commandWord, fieldAt]

/-- A word that some row selects is the word of a command. -/
theorem exists_encode_eq {w : Word} (h : ∃ r ∈ opcodeRows, rowSelects r w = true) : ∃ i, encode i = w := by
  obtain ⟨hz, hrow⟩ := (exists_rowSelects_iff_fields w).1 h
  rw [← commandWord_of_fields hz]
  generalize commandFields w = c at hrow
  obtain ⟨hop, hf⟩ | ⟨hop, hd⟩ | ⟨hop | hop | hop, hf, hd⟩ | ⟨hop | hop, hf⟩ := hrow
  · exact ⟨.check c.d, by rw [hop, hf]; rfl⟩
  · refine ⟨.nextSend (c.f == 1), ?_⟩
    have hf : BitVec.ofBool (c.f == 1) = c.f := by
      generalize c.f = f
      revert f; decide
    rw [encode, hf, hop, hd]
  · exact ⟨.getRR, by rw [hop, hf, hd]; rfl⟩
  · exact ⟨.getKA, by rw [hop, hf, hd]; rfl⟩
  · exact ⟨.reset, by rw [hop, hf, hd]; rfl⟩
  · exact ⟨.incRR c.d, by rw [hop, hf]; rfl⟩
  · exact ⟨.incSS c.d, by rw [hop, hf]; rfl⟩

/-- Settles O4: a legal word is the word of some command, and that command is the one it decodes to. -/
theorem encodeOfDecode : Obligations.EncodeOfDecode := by
  intro w i hi
  have hlegal : ∃ r ∈ opcodeRows, rowSelects r w = true := by
    obtain ⟨r, hr, hs, -⟩ | ⟨-, hd⟩ := decode_cases w
    · exact ⟨r, hr, hs⟩
    · exact nomatch hd.symm.trans hi
  obtain ⟨j, rfl⟩ := exists_encode_eq hlegal
  rw [Decoded.instr.inj (hi.symm.trans (decodeOfEncode j))]

/-- The whole of a word given as the opcode table numbers its bits is the word. -/
theorem tableWord_toNat (w : Word) : tableWord 16 w.toNat = w := by
  rw [tableWord, Nat.mod_eq_of_lt w.isLt, BitVec.ofNat_toNat, BitVec.setWidth_eq]

end Sys2Proof

namespace Sys2Proof.Machine

/-- Settles O8: the encoded command is taken first, and taking it gives the state back. -/
theorem presentedTableWordRuns : Obligations.PresentedTableWordRuns := by
  intro s i
  rw [State.withFetchWord, tableWord_toNat]
  exact step_instr (presentFirst_pending (encode i) s) (decodeOfEncode i)

end Sys2Proof.Machine
end

section
/-! What every command does, in closed form: the counters it leaves and its response, as functions of the command and the
state, and `exec` as one record update made of them (40_check_frame.md R48, 41_sequence_increment.md R61 and R64,
42_frame_generation.md R67, R70 and R72, 43_sequence_reset.md R76). -/

namespace Sys2Proof.Machine

/-- The `SF` a command leaves. -/
def nextSF (i : Instr) (s : State) : Byte :=
  match i with
  | .check b => if classify b = .uReset then initS s.params s.role else s.sf
  | .nextSend first => if first then incRR (incSS s.sf) else incSS s.sf
  | .getRR => incRR (s.sf ||| 1)
  | .getKA => s.sf ||| 1
  | .reset => initS s.params s.role
  | .incRR _ => s.sf
  | .incSS _ => s.sf

/-- The `RF` a CHECK leaves: a compared byte goes into it unless it is rejected. -/
def checkedRF (b : Byte) (s : State) : Byte :=
  if compares b s then
    if b = expected s.sf s.rf ∨ s.skip = true then b else s.rf
  else
    match classify b with
    | .uReset => initR s.role
    | .s => incRR s.rf
    | _ => s.rf

/-- The `RF` a command leaves. -/
def nextRF (i : Instr) (s : State) : Byte :=
  match i with
  | .check b => checkedRF b s
  | .reset => initR s.role
  | _ => s.rf

/-- The response of a CHECK: a compared byte is reported with the expected one and accepted if it is that or the bypass is
on; any other byte is accepted. -/
def checkResponse (b : Byte) (s : State) : Response :=
  if compares b s then
    { cls := some (classify b)
      mis := decide (b ≠ expected s.sf s.rf)
      acc := decide (b = expected s.sf s.rf) || s.skip
      r := expected s.sf s.rf }
  else acceptResponse (classify b)

/-- The response of a command. -/
def answer (i : Instr) (s : State) : Response :=
  match i with
  | .check b => checkResponse b s
  | .nextSend _ => resultResponse (nextSF i s)
  | .getRR => resultResponse (nextSF i s &&& 0xF1)
  | .getKA => resultResponse (nextSF i s &&& 0xF1)
  | .reset => resultResponse 0
  | .incRR v => resultResponse (incRR v)
  | .incSS v => resultResponse (incSS v)

/-- The state a command leaves. -/
def after (i : Instr) (s : State) : State :=
  { s with sf := nextSF i s, rf := nextRF i s, responses := s.responses ++ [packResponse (answer i s)] }

@[simp] theorem after_sf (i : Instr) (s : State) : (after i s).sf = nextSF i s := rfl
@[simp] theorem after_rf (i : Instr) (s : State) : (after i s).rf = nextRF i s := rfl
@[simp] theorem after_role (i : Instr) (s : State) : (after i s).role = s.role := rfl
@[simp] theorem after_skip (i : Instr) (s : State) : (after i s).skip = s.skip := rfl
@[simp] theorem after_params (i : Instr) (s : State) : (after i s).params = s.params := rfl
@[simp] theorem after_pending (i : Instr) (s : State) : (after i s).pending = s.pending := rfl
@[simp] theorem after_responses (i : Instr) (s : State) :
    (after i s).responses = s.responses ++ [packResponse (answer i s)] := rfl

/-- CHECK of a byte that is compared. -/
theorem exec_check_of_compares {b : Byte} {s : State} (h : compares b s = true) :
    exec (.check b) s = .next (after (.check b) s) := by
  have hu : classify b ≠ .uReset := fun hc => by simp [compares, hc] at h
  rw [exec, execCheck_of_compares h]
  by_cases heq : b = expected s.sf s.rf
  · rw [validate_of_eq _ heq]
    simp [after, nextSF, nextRF, checkedRF, answer, checkResponse, h, hu, ← heq]
  · cases hk : s.skip
    · rw [validate_of_ne_of_skip_off _ heq hk]
      simp [after, nextSF, nextRF, checkedRF, answer, checkResponse, h, hu, heq, hk]
    · rw [validate_of_ne_of_skip_on _ heq hk]
      simp [after, nextSF, nextRF, checkedRF, answer, checkResponse, h, hu, heq, hk]

/-- CHECK of a byte that is not compared. -/
theorem exec_check_of_not_compares {b : Byte} {s : State} (h : compares b s = false) :
    exec (.check b) s = .next (after (.check b) s) := by
  simp only [after, nextSF, nextRF, checkedRF, answer, checkResponse, h]
  cases hc : classify b with
  | uiNotify => simp [exec, execCheck, hc, respond_eq]
  | uReset => simp [exec_check_of_uReset hc, respond_resetState_eq]
  | s => simp [exec_check_of_s hc, respond_setRF_eq]
  | i => simp [compares, hc] at h
  | uOther =>
    cases hm : s.params.uOtherMode with
    | accept => simp [exec_check_of_uOther_accept hc hm, respond_eq]
    | asIFrame => simp [compares, hc, hm] at h

/-- Every command completes, and leaves that state. -/
theorem exec_eq_after (i : Instr) (s : State) : exec i s = .next (after i s) := by
  cases i with
  | check b =>
    cases h : compares b s
    · exact exec_check_of_not_compares h
    · exact exec_check_of_compares h
  | nextSend first => rw [exec_nextSend, ← packResponse_result]; rfl
  | getRR => rw [exec_getRR, ← packResponse_result]; rfl
  | getKA => rw [exec_getKA, ← packResponse_result]; rfl
  | reset => rfl
  | incRR v => rfl
  | incSS v => rfl

end Sys2Proof.Machine
end

section
/-! The invariants every step keeps (30_encoding.md section 1 and section 3, 70_reset_and_hazards.md R99). -/

namespace Sys2Proof.Machine

/-- A property that taking a word, rejecting one and executing a command keep is kept by every step. -/
theorem step_keeps {P : State → Prop} (take : ∀ s ws, P s → P { s with pending := ws })
    (run : ∀ i s, P s → P (after i s)) (reject : ∀ s, P s → P (rejectWord s)) {s t : State} (hs : P s)
    (h : step s = .next t) : P t := by
  obtain ⟨-, he⟩ | ⟨w, ws, -, ⟨i, -, he⟩ | ⟨-, he⟩⟩ := step_cases s
  · rwa [← Host.Outcome.next.inj (he.symm.trans h)]
  · rw [← Host.Outcome.next.inj ((exec_eq_after i _).symm.trans (he.symm.trans h))]
    exact run i _ (take s ws hs)
  · rw [← Host.Outcome.next.inj (he.symm.trans h)]
    exact reject _ (take s ws hs)

/-- Bit 4 of the initial sender counter is set in both roles when the Client's value has it. -/
theorem initS_poll {p : Params} (hp : p.clientSenderInit[4] = true) (r : Role) : (initS p r)[4] = true := by
  cases r with
  | client => exact hp
  | server => exact initS_server_poll p

/-- Every command leaves an `SF` with bit 4 set: each increment keeps or sets it, and a reset writes a value that has it. -/
theorem nextSF_poll {s : State} (h : PollBitSet s) (i : Instr) : (nextSF i s)[4] = true := by
  obtain ⟨hsf, hinit⟩ := h
  cases i with
  | check b =>
    rw [nextSF]
    split
    · exact initS_poll hinit s.role
    · exact hsf
  | nextSend first => cases first <;> simp [nextSF, hsf]
  | getRR => simp [nextSF]
  | getKA => simp [nextSF, hsf]
  | reset => exact initS_poll hinit s.role
  | incRR v => exact hsf
  | incSS v => exact hsf

/-- Settles O49: no command clears bit 4 of `SF`, and taking or rejecting a word writes no counter. -/
theorem stepKeepsPollBit : Obligations.StepKeepsPollBit := fun _ _ =>
  step_keeps (P := PollBitSet) (fun _ _ hs => hs) (fun i _ hs => ⟨nextSF_poll hs i, hs.right⟩) fun _ hs => hs

/-- With the bypass off a CHECK puts in `RF` no byte but the expected one, which is even, and otherwise keeps the parity of
`RF` or resets it. -/
theorem checkedRF_parity {s : State} (hk : s.skip = false) (h : s.rf[0] = false) (b : Byte) :
    (checkedRF b s)[0] = false := by
  rw [checkedRF]
  split
  · split
    · next hb =>
      obtain rfl : b = expected s.sf s.rf := by simpa [hk] using hb
      exact expected_parity s.sf s.rf
    · exact h
  · split
    · exact initR_parity s.role
    · rw [incRR_parity, h]
    · exact h

/-- No command makes `RF` odd with the bypass off. -/
theorem after_receiverEven {s : State} (h : ReceiverEven s) (i : Instr) : ReceiverEven (after i s) := by
  intro hk
  cases i with
  | check b => exact checkedRF_parity (s := s) hk (h hk) b
  | reset => exact initR_parity s.role
  | nextSend first => exact h hk
  | getRR => exact h hk
  | getKA => exact h hk
  | incRR v => exact h hk
  | incSS v => exact h hk

/-- Settles O50: only CHECK and RESET write `RF`, and neither makes it odd with the bypass off. -/
theorem stepKeepsReceiverEven : Obligations.StepKeepsReceiverEven := fun _ _ =>
  step_keeps (P := ReceiverEven) (fun _ _ hs => hs) (fun i _ hs => after_receiverEven hs i) fun _ hs => hs

/-- The response of every command has the layout of R40: a CHECK that does not accept has seen a mismatch. -/
theorem validResponse_answer (i : Instr) (s : State) : validResponse (packResponse (answer i s)) = true := by
  cases i with
  | check b =>
    rw [answer, checkResponse]
    split
    · refine validResponse_check _ _ _ _ ?_
      by_cases h : b = expected s.sf s.rf <;> simp [h]
    · exact validResponse_check _ _ _ _ (.inr rfl)
  | nextSend first => exact validResponse_result _
  | getRR => exact validResponse_result _
  | getKA => exact validResponse_result _
  | reset => exact validResponse_result _
  | incRR v => exact validResponse_result _
  | incSS v => exact validResponse_result _

/-- A valid response added to valid ones. -/
theorem responsesValid_append {rs : List Word} {w : Word} (hrs : ∀ v ∈ rs, validResponse v = true)
    (hw : validResponse w = true) : ∀ v ∈ rs ++ [w], validResponse v = true := by
  simpa [or_imp, forall_and] using ⟨hrs, hw⟩

/-- Settles O51: the response of a command and the response to an illegal word both have the layout. -/
theorem stepKeepsResponsesValid : Obligations.StepKeepsResponsesValid := fun _ _ =>
  step_keeps (P := ResponsesValid) (fun _ _ hs => hs)
    (fun i s hs => responsesValid_append hs (validResponse_answer i s))
    fun _ hs => responsesValid_append hs (packResponse_illegal ▸ validResponse_illegal)

/-- Settles O52: construction writes the initial counters and has no response; State.reset is the construction whose
`CLIENT_SENDER_INIT` is `0x10`. -/
theorem invariantsHoldAtConstruction : Obligations.InvariantsHoldAtConstruction := by
  have poll (p : Params) (role : Role) (skip : Bool) (hp : p.clientSenderInit[4] = true) :
      PollBitSet (State.construct p role skip) := ⟨initS_poll hp role, hp⟩
  have rest (p : Params) (role : Role) (skip : Bool) :
      ReceiverEven (State.construct p role skip) ∧ ResponsesValid (State.construct p role skip) :=
    ⟨fun _ => initR_parity role, fun _ hw => nomatch hw⟩
  exact ⟨poll, rest, poll _ _ _ (by decide), rest _ _ _⟩

end Sys2Proof.Machine
end

section
/-! What a step reads and what it leaves alone: the next word and the block decide the counters and the one response, and the
words presented later and the responses given before pass through (20_memory.md section 3, 10_state.md section 1). -/

namespace Sys2Proof.Machine

/-- Settles O6: the law of a legal word. -/
theorem stepRunsDecodedCommand : Obligations.StepRunsDecodedCommand :=
  fun _ _ _ _ hp hd => step_instr hp hd

/-- Settles O7: the law of a step with nothing presented. -/
theorem stepWaitsWithNothingPresented : Obligations.StepWaitsWithNothingPresented :=
  fun _ hp => step_idle hp

/-- Settles O1: the words are the encoder's. -/
theorem wordsOfTheSpecDecode : Obligations.WordsOfTheSpecDecode :=
  ⟨decodeOfEncode (.check 0x30), decodeOfEncode (.nextSend true), decodeOfEncode (.nextSend false),
    decodeOfEncode .getRR, decodeOfEncode .getKA, decodeOfEncode .reset, decodeOfEncode (.incRR 0x12),
    decodeOfEncode (.incSS 0x10)⟩

/-- Settles O9: the frame of the state a command leaves. -/
theorem commandsCompleteWithinFrame : Obligations.CommandsCompleteWithinFrame := fun i s =>
  ⟨after i s, packResponse (answer i s), exec_eq_after i s, after_role i s, after_skip i s, after_params i s,
    after_pending i s, after_responses i s⟩

/-- A step on a presented word: the counters and the response it gives are the same whatever words follow and whatever was
answered before. -/
theorem step_word {s : State} {w : Word} {ws : List Word} (hp : s.pending = w :: ws) :
    ∃ (sf rf : Byte) (r : Word),
      step s = .next { s with sf := sf, rf := rf, pending := ws, responses := s.responses ++ [r] } ∧
        ∀ later before : List Word, step { s with pending := w :: later, responses := before } =
          .next { s with sf := sf, rf := rf, pending := later, responses := before ++ [r] } := by
  cases hd : decode w with
  | instr i =>
    exact ⟨nextSF i s, nextRF i s, packResponse (answer i s), (step_instr hp hd).trans (exec_eq_after i _),
      fun later before =>
        (step_instr rfl hd).trans (exec_eq_after i { s with pending := later, responses := before })⟩
  | illegal why =>
    exact ⟨s.sf, s.rf, 0x8000, (step_illegal hp hd).trans (congrArg _ (rejectWord_eq _)), fun later before =>
      (step_illegal rfl hd).trans (congrArg _ (rejectWord_eq { s with pending := later, responses := before }))⟩

/-- Every step completes. -/
theorem step_completes (s : State) : ∃ t, step s = .next t := by
  obtain ⟨-, he⟩ | ⟨w, ws, -, ⟨i, -, he⟩ | ⟨-, he⟩⟩ := step_cases s
  · exact ⟨_, he⟩
  · exact ⟨_, he.trans (exec_eq_after i _)⟩
  · exact ⟨_, he⟩

/-- Settles O11: the words after the one taken pass through the step. -/
theorem laterCommandsAreNotSeen : Obligations.LaterCommandsAreNotSeen := by
  intro s more hne
  obtain ⟨w, ws, hp⟩ := List.exists_cons_of_ne_nil hne
  obtain ⟨sf, rf, r, hstep, hother⟩ := step_word hp
  exact ⟨_, hstep, by rw [hp]; exact hother (ws ++ more) s.responses⟩

/-- Settles O12: the responses given before pass through the step, and with nothing presented none is added. -/
theorem earlierResponsesAreNotRead : Obligations.EarlierResponsesAreNotRead := by
  intro s before
  cases hp : s.pending with
  | nil =>
    refine ⟨s, [], step_idle hp, (List.append_nil _).symm, ?_⟩
    rw [List.append_nil, hp]
    exact step_idle rfl
  | cons w ws =>
    obtain ⟨sf, rf, r, hstep, hother⟩ := step_word hp
    exact ⟨_, [r], hstep, rfl, hother ws before⟩

/-- A run begins with a step. -/
theorem run_succ_of_step {s t : State} (h : step s = .next t) (n : Nat) :
    Host.Core.run core (n + 1) s = Host.Core.run core n t := by
  have hcore : core.step s = .next t := h
  simp only [Host.Core.run, hcore]

/-- Settles O10: induction on the number of words, one step taking one word and giving one response. -/
theorem runAnswersEveryWord : Obligations.RunAnswersEveryWord := by
  intro n
  induction n with
  | zero => exact fun s _ => ⟨s, [], rfl, rfl, by simp, rfl, rfl, rfl, rfl⟩
  | succ n ih =>
    intro s hlen
    obtain ⟨w, ws, hp⟩ := List.exists_cons_of_length_pos (Nat.zero_lt_of_lt hlen)
    obtain ⟨sf, rf, r, hstep, -⟩ := step_word hp
    obtain ⟨t, rs, hrun, hpending, hresponses, hcount, hframe⟩ :=
      ih { s with sf := sf, rf := rf, pending := ws, responses := s.responses ++ [r] } (by simpa [hp] using hlen)
    exact ⟨t, r :: rs, (run_succ_of_step hstep n).trans hrun, by rw [hpending, hp]; rfl, by simp [hresponses],
      by simp [hcount], hframe⟩

end Sys2Proof.Machine
end

section
/-! Several instances: a step of one writes only its own place in the list (10_state.md R21, 20_memory.md R27). -/

namespace Sys2Proof.Machine

/-- The step as a function on states, there being no outcome but a next state. -/
theorem exists_step_eq : ∃ f : State → State, ∀ s, step s = .next (f s) :=
  Classical.skolem.1 step_completes

/-- A step in a list of instances modifies its place in the list. -/
theorem stepAt_eq_modify {f : State → State} (hf : ∀ s, step s = .next (f s)) (k : Nat) (ss : List State) :
    stepAt k ss = .next (ss.modify k f) := by
  rw [stepAt, List.modify_eq_set_getElem?]
  cases ss[k]? <;> simp [hf]

/-- Settles O53: modifications of two different places of a list commute and leave each other's place alone. -/
theorem instancesAreIndependent : Obligations.InstancesAreIndependent := by
  intro ss j k hjk
  obtain ⟨f, hf⟩ := exists_step_eq
  refine ⟨ss.modify j f, ss.modify k f, (ss.modify j f).modify k f, stepAt_eq_modify hf j ss, stepAt_eq_modify hf k ss,
    stepAt_eq_modify hf k _, ?_, List.getElem?_modify_ne f ss hjk, List.getElem?_modify_ne f ss hjk.symm⟩
  rw [stepAt_eq_modify hf, List.modify_modify_ne f f ss hjk]

end Sys2Proof.Machine
end

section
/-! The verdict of CHECK and what CHECK writes (40_check_frame.md section 4, 60_exceptions.md section 1). -/

namespace Sys2Proof.Machine

/-- `MIS` is shown exactly on a compared difference. -/
theorem checkResponse_mis_iff (b : Byte) (s : State) :
    (checkResponse b s).mis = true ↔ compares b s = true ∧ b ≠ expected s.sf s.rf := by
  rw [checkResponse]
  split
  · next h => simp [h]
  · next h => simp [h, acceptResponse]

/-- A CHECK rejects exactly when it shows a mismatch and the bypass is off. -/
theorem checkResponse_acc_iff (b : Byte) (s : State) :
    (checkResponse b s).acc = false ↔ (checkResponse b s).mis = true ∧ s.skip = false := by
  rw [checkResponse]
  split
  · simp
  · simp [acceptResponse]

/-- With the bypass off an I-pattern byte is accepted exactly when it is the expected one. -/
theorem checkResponse_acc_of_i {b : Byte} {s : State} (hb : b[0] = false) (hk : s.skip = false) :
    (checkResponse b s).acc = true ↔ b = expected s.sf s.rf := by
  have hc : compares b s = true := (compares_iff b s).2 (.inl hb)
  rw [← Bool.not_eq_false, checkResponse_acc_iff, checkResponse_mis_iff]
  simp [hc, hk]

/-- Settles O28: the verdict fields of the response, and which bytes are compared. -/
theorem checkVerdictExact : Obligations.CheckVerdictExact := by
  intro s b
  have hmis : (packResponse (checkResponse b s))[9] = (checkResponse b s).mis := packResponse_mis _
  have hacc : (packResponse (checkResponse b s))[8] = (checkResponse b s).acc := packResponse_acc _
  refine ⟨_, _, exec_eq_after (.check b) s, after_responses _ s, ?_⟩
  rw [answer, hmis, hacc, ← compares_iff]
  exact ⟨checkResponse_mis_iff b s, checkResponse_acc_iff b s, fun hk hb => checkResponse_acc_of_i hb hk⟩

/-- What becomes of `RF` in a CHECK that does not reset the counters. -/
theorem checkedRF_cases {b : Byte} (s : State) (h : classify b ≠ .uReset) :
    checkedRF b s = s.rf ∨ checkedRF b s = b ∨ (classify b = .s ∧ checkedRF b s = incRR s.rf) := by
  rw [checkedRF]
  split
  · split
    · exact .inr (.inl rfl)
    · exact .inl rfl
  · split
    · next hc => exact absurd hc h
    · next hc => exact .inr (.inr ⟨hc, rfl⟩)
    · exact .inl rfl

/-- A CHECK of a U-reset byte resets the receiver counter. -/
theorem checkedRF_of_uReset {b : Byte} (s : State) (h : classify b = .uReset) : checkedRF b s = initR s.role := by
  simp [checkedRF, compares, h]

/-- Settles O30: the frame of the state CHECK leaves, and its counters by the class of the byte. -/
theorem checkWritesWithinFrame : Obligations.CheckWritesWithinFrame := by
  intro s b
  obtain ⟨-, hreset, hs, -⟩ := classify_iff b
  refine ⟨_, _, exec_eq_after (.check b) s, after_responses _ s, rfl, rfl, rfl, rfl, fun h7 h9 => ?_, fun hb => ?_⟩
  · have hne : classify b ≠ .uReset := fun hc => (hreset.1 hc).elim h7 h9
    refine ⟨if_neg hne, (checkedRF_cases s hne).imp_right (Or.imp_right fun ⟨hc, hrf⟩ => ?_)⟩
    obtain ⟨h0, h1⟩ := hs.1 hc
    exact ⟨h0, h1, hrf⟩
  · exact ⟨if_pos (hreset.2 hb), checkedRF_of_uReset s (hreset.2 hb)⟩

/-- A rejected CHECK leaves nothing but its response. -/
theorem after_check_of_rejected {b : Byte} {s : State} (h : (checkResponse b s).acc = false) :
    after (.check b) s = { s with responses := s.responses ++ [packResponse (checkResponse b s)] } := by
  obtain ⟨hmis, hk⟩ := (checkResponse_acc_iff b s).1 h
  obtain ⟨hc, hne⟩ := (checkResponse_mis_iff b s).1 hmis
  have hu : classify b ≠ .uReset := fun hu => by simp [compares, hu] at hc
  simp [after, nextSF, nextRF, checkedRF, answer, hu, hc, hne, hk]

/-- Settles O31: the rejected CHECK only adds a response, and no CHECK reads the responses. -/
theorem rejectionLeavesTheBlockAlone : Obligations.RejectionLeavesTheBlockAlone := by
  intro s t b w he hr hw
  obtain rfl : after (.check b) s = t := Host.Outcome.next.inj ((exec_eq_after _ s).symm.trans he)
  obtain rfl : packResponse (checkResponse b s) = w := by simpa [answer] using hr
  have hacc : (checkResponse b s).acc = false := (packResponse_acc _).symm.trans hw
  rw [after_check_of_rejected hacc]
  exact ⟨⟨rfl, rfl, rfl, rfl, rfl⟩, rfl, fun c =>
    ⟨_, _, _, exec_eq_after (.check c) s, exec_eq_after (.check c) _, ⟨rfl, rfl, rfl, rfl, rfl⟩, rfl, rfl⟩⟩

/-- The response of a CHECK that does not compare depends on the byte alone. -/
theorem checkResponse_of_not_compares {b : Byte} {s : State} (h : compares b s = false) :
    checkResponse b s = acceptResponse (classify b) := by
  simp [checkResponse, h]

/-- A byte of class UI_NOTIFY, U_RESET or S, or of class U_OTHER under `ACCEPT`, is not compared. -/
theorem not_compares_of_odd {b : Byte} {s : State} (h0 : b[0] = true)
    (h : b[1] = false ∨ b = 0x13 ∨ b = 0x73 ∨ b = 0x93 ∨ s.params.uOtherMode = .accept) : compares b s = false := by
  rw [← Bool.not_eq_true, compares_iff]
  rintro (hi | ⟨h1, hn, h7, h9, hm⟩)
  · simp [h0] at hi
  · obtain hs | rfl | rfl | rfl | ha := h
    · simp [h1] at hs
    · exact hn rfl
    · exact h7 rfl
    · exact h9 rfl
    · simp [hm] at ha

/-- The response of a command that does not compare does not depend on `RF`. -/
theorem answer_of_not_compares {i : Instr} {s : State} (h : ∀ b, i = .check b → compares b s = false) (rf : Byte) :
    answer i { s with rf := rf } = answer i s := by
  cases i with
  | check b =>
    have hc : compares b s = false := h b rfl
    exact (checkResponse_of_not_compares (s := { s with rf := rf }) hc).trans (checkResponse_of_not_compares hc).symm
  | nextSend first => rfl
  | getRR => rfl
  | getKA => rfl
  | reset => rfl
  | incRR v => rfl
  | incSS v => rfl

/-- Settles O48: `SF` never depends on `RF`, and the response does only where the byte is compared. -/
theorem receiverFrameIsHidden : Obligations.ReceiverFrameIsHidden := by
  intro s i rf hi
  have hanswer : answer i { s with rf := rf } = answer i s :=
    answer_of_not_compares (fun b hb => not_compares_of_odd (hi b hb).left (hi b hb).right) rf
  exact ⟨_, _, _, exec_eq_after i s, exec_eq_after i _, rfl, by rw [← hanswer]; rfl, rfl⟩

/-- Settles O46: the parity of the `SF` each command leaves. -/
theorem senderParityTracksTheGenerator : Obligations.SenderParityTracksTheGenerator := by
  intro s i
  refine ⟨after i s, exec_eq_after i s, ?_⟩
  cases i with
  | check b =>
    obtain ⟨-, hreset, -⟩ := classify_iff b
    simp only [after_sf, nextSF, hreset]
    split <;> rfl
  | nextSend first => cases first <;> simp [nextSF]
  | getRR => simp [nextSF]
  | getKA => simp [nextSF]
  | reset => rfl
  | incRR v => rfl
  | incSS v => rfl

end Sys2Proof.Machine
end

section
/-! RESET, CHECK of a U-reset byte and CHECK of the notify byte (43_sequence_reset.md, 20_memory.md section 2). -/

namespace Sys2Proof.Machine

/-- Settles O14: State.reset is a construction with those arguments. -/
theorem resetStateIsAFreshClient : Obligations.ResetStateIsAFreshClient :=
  ⟨rfl, rfl, rfl, rfl, rfl, rfl, rfl⟩

/-- Settles O16: both commands reset the counters, each with its own response. -/
theorem resetAndUResetAgree : Obligations.ResetAndUResetAgree := fun s b hb =>
  ⟨resetState s, exec_reset s, checkUResetBytes s b hb, resetState_sf s, resetState_rf s⟩

/-- Settles O17: the counters are initial after the first RESET, and CHECK of the notify byte only responds. -/
theorem resetAndNotifyAreIdempotent : Obligations.ResetAndNotifyAreIdempotent := by
  rintro s i (rfl | rfl)
  · exact ⟨_, _, exec_reset s, rfl, exec_reset_of_initial rfl rfl⟩
  · exact ⟨_, _, checkNotifyByte s, rfl, checkNotifyByte _⟩

end Sys2Proof.Machine
end

section
/-! The bit fields of the bytes the block computes, as the response words show them (41_sequence_increment.md R60 and R63,
40_check_frame.md R47, 42_frame_generation.md R68, R71 and R73). -/

namespace Sys2Proof.Machine

/-- A field that lies in the low byte of a response is that field of the result byte. -/
theorem packResponse_field (a : Response) {start len : Nat} (h : start + len ≤ 8) :
    (packResponse a).extractLsb' start len = a.r.extractLsb' start len := by
  rw [← packResponse_r a, respR]
  ext i hi
  simp [show start + i < 8 by omega]

/-- A bit of the low byte of a response is that bit of the result byte. -/
theorem packResponse_bit (a : Response) {i : Nat} (h : i < 8) : (packResponse a)[i] = a.r[i] := by
  simp [← packResponse_r a, respR, BitVec.getLsbD_eq_getElem (show i < 16 by omega)]

/-- `incRR` keeps the N(S) field. -/
@[simp] theorem incRR_ns (v : Byte) : (incRR v).extractLsb' 1 3 = v.extractLsb' 1 3 := by
  revert v; decide

/-- `incSS` keeps the N(R) field. -/
@[simp] theorem incSS_nr (v : Byte) : (incSS v).extractLsb' 5 3 = v.extractLsb' 5 3 := by
  revert v; decide

/-- The two increments commute (41_sequence_increment.md R65). -/
theorem incSS_incRR (v : Byte) : incSS (incRR v) = incRR (incSS v) := by
  revert v; decide

/-- Setting bit 0 of a byte keeps the N(R) field. -/
theorem or_one_nr (v : Byte) : (v ||| 1).extractLsb' 5 3 = v.extractLsb' 5 3 := by
  simp [BitVec.extractLsb'_or]

/-- Setting bit 0 of a byte keeps the N(S) field. -/
theorem or_one_ns (v : Byte) : (v ||| 1).extractLsb' 1 3 = v.extractLsb' 1 3 := by
  simp [BitVec.extractLsb'_or]

/-- Setting bit 0 of a byte keeps the high nibble. -/
theorem or_one_high (v : Byte) : (v ||| 1).extractLsb' 4 4 = v.extractLsb' 4 4 := by
  simp [BitVec.extractLsb'_or]

/-- The mask `0xF1` of GET_RR and GET_KA keeps the high nibble. -/
theorem mask_high (v : Byte) : (v &&& 0xF1).extractLsb' 4 4 = v.extractLsb' 4 4 := by
  revert v; decide

/-- The mask `0xF1` keeps the N(R) field. -/
theorem mask_nr (v : Byte) : (v &&& 0xF1).extractLsb' 5 3 = v.extractLsb' 5 3 := by
  revert v; decide

/-- The mask `0xF1` leaves the low nibble `0001` of an odd byte. -/
theorem mask_low {v : Byte} (h : v[0] = true) : (v &&& 0xF1).extractLsb' 0 4 = 0b0001 := by
  revert v; decide

/-- The mask `0xF1` leaves the low bits `10001` of an odd byte with bit 4 set. -/
theorem mask_low_poll {v : Byte} (h0 : v[0] = true) (h4 : v[4] = true) : (v &&& 0xF1).extractLsb' 0 5 = 0b10001 := by
  revert v; decide

/-- A field of a byte is that field of the response word that is only this byte. -/
theorem setWidth_field (v : Byte) {start len : Nat} (h : start + len ≤ 16) :
    (v.setWidth 16).extractLsb' start len = v.extractLsb' start len :=
  BitVec.extractLsb'_setWidth_of_le h

/-- `N(S)` of the expected byte is that of `RF` plus 1, whatever the parity of `SF`. -/
@[simp] theorem expected_ns (sf rf : Byte) : (expected sf rf).extractLsb' 1 3 = rf.extractLsb' 1 3 + 1 := by
  cases h : sf[0]
  · rw [expected_of_even h, incRR_ns, incSS_ns]
  · rw [expected_of_odd h, incSS_ns]

/-- Settles O26: the fields of the expected byte, which the response of a CHECK that compares carries. -/
theorem expectedByteFields : Obligations.ExpectedByteFields := by
  intro s b hb
  obtain ⟨t, a, he, hr, -, hres⟩ := exec_check_responds b s
  rw [if_pos ((compares_iff b s).2 (.inl hb))] at hres
  have field {start len : Nat} (h : start + len ≤ 8) :
      (packResponse a).extractLsb' start len = (expected s.sf s.rf).extractLsb' start len :=
    hres ▸ packResponse_field a h
  have bit {i : Nat} (h : i < 8) : (packResponse a)[i] = (expected s.sf s.rf)[i] := by
    rw [packResponse_bit a h]; simp only [hres]
  refine ⟨t, packResponse a, he, hr, ?_, fun d hd => ?_, ?_, fun ho => ?_, fun he => ⟨?_, ?_⟩⟩
  · rw [bit (by omega), expected_parity]
  · rw [field (by omega), BitVec.extractLsb'_eq_self]
    exact ne_expected_of_odd hd s.sf s.rf
  · rw [field (by omega), expected_ns]
  · rw [field (by omega), expected_of_odd ho, incSS_high]
  · rw [field (by omega), expected_of_even he, incRR_nr, incSS_nr]
  · rw [bit (by omega)]
    simp only [expected_of_even he, incRR_poll]

/-- Settles O34: the fields of the increments, in the low byte of the responses. -/
theorem incrementClosedForms : Obligations.IncrementClosedForms := by
  intro s v
  have upper (x : Byte) : (x.setWidth 16).extractLsb' 8 8 = 0 := by
    revert x; decide
  refine ⟨_, _, exec_incRR v s, exec_incSS v s, ?_, by simp, ?_, ?_, ?_, by simp, upper _, upper _⟩
  · rw [setWidth_field _ (by omega), incRR_nr]
  · rw [setWidth_field _ (by omega), incRR_low]
  · rw [setWidth_field _ (by omega), incSS_high]
  · rw [setWidth_field _ (by omega), incSS_ns]

/-- Settles O35: the low byte of each response is the increment, and the increments commute. -/
theorem incrementCommandsCommute : Obligations.IncrementCommandsCommute := by
  intro s v
  have low (x : Byte) : (x.setWidth 16).extractLsb' 0 8 = x := by
    rw [setWidth_field x (by omega), BitVec.extractLsb'_eq_self]
  refine ⟨_, _, exec_incRR v s, exec_incSS v s, ?_⟩
  rw [low, low, exec_incSS, exec_incRR, incSS_incRR]

/-- Settles O37: `F = 0` applies `incSS` alone, which keeps the high nibble; `F = 1` applies `incRR` to it as well. -/
theorem nextSendFields : Obligations.NextSendFields := by
  intro s f
  refine ⟨_, exec_nextSend f s, rfl, ?_⟩
  cases f with
  | false => simp
  | true => simp

/-- Settles O38: `incSS`, which every NEXT_SEND applies first, ignores bit 0. -/
theorem nextSendIgnoresParity : Obligations.NextSendIgnoresParity := by
  intro s f
  simp only [exec_nextSend, incSS_clear_parity]

/-- Settles O40: `incRR` of `SF | 1`, whole in `SF` and masked in the response. -/
theorem getRRFields : Obligations.GetRRFields := by
  intro s
  refine ⟨_, _, exec_getRR s, rfl, ?_, ?_, ?_, by simp, by simp, (incRR_ns _).trans (or_one_ns _)⟩
  · rw [setWidth_field _ (by omega), mask_nr, incRR_nr, or_one_nr]
  · rw [setWidth_field _ (by omega), mask_low_poll (by simp) (by simp)]
  · exact (incRR_nr _).trans (by rw [or_one_nr])

/-- Settles O42: `SF | 1`, whole in `SF` and masked in the response; a second `| 1` changes nothing. -/
theorem getKAFieldsAndIdempotence : Obligations.GetKAFieldsAndIdempotence := by
  intro s
  have upper (x : Byte) : (x.setWidth 16).extractLsb' 4 12 = (x.extractLsb' 4 4).setWidth 12 := by
    revert x; decide
  have twice : (s.sf ||| 1) ||| 1 = s.sf ||| 1 := by rw [BitVec.or_assoc, BitVec.or_self]
  refine ⟨_, _, exec_getKA s, rfl, by simp [BitVec.extractLsb'_or], by simp, ?_, ?_, ?_⟩
  · rw [upper, mask_high, or_one_high]
  · rw [setWidth_field _ (by omega), mask_low (by simp)]
  · rw [exec_getKA, twice]

/-- Settles O44: each generating command keeps or sets bit 4, and the low bits are those of the pattern. -/
theorem generatedBytePatterns : Obligations.GeneratedBytePatterns := by
  rintro s ⟨hsf, -⟩
  refine ⟨fun f => ⟨_, _, exec_nextSend f s, rfl, ?_, ?_⟩, ?_⟩
  · cases f <;> simp [hsf]
  · cases f <;> simp
  · rintro i (rfl | rfl)
    · exact ⟨_, _, exec_getRR s, rfl, by simp, by rw [setWidth_field _ (by omega), mask_low (by simp)]⟩
    · exact ⟨_, _, exec_getKA s, rfl, by simp [hsf], by rw [setWidth_field _ (by omega), mask_low (by simp)]⟩

end Sys2Proof.Machine
end

section
/-! Runs of generating commands, the byte a CHECK expects after them, and two instances in step (42_frame_generation.md R68,
70_reset_and_hazards.md R98, 95_test_vectors.md section 1.5). -/

namespace Sys2Proof.Machine

/-- A run of `n` equal words of a command that only writes `f` of `SF` to `SF` applies `f` to it `n` times. -/
theorem run_replicate {w : Word} {i : Instr} {f : Byte → Byte} (hd : decode w = .instr i)
    (hexec : ∀ s, ∃ r, exec i s = .next { s with sf := f s.sf, responses := s.responses ++ [r] }) (ws : List Word) :
    ∀ (n : Nat) (s : State), s.pending = List.replicate n w ++ ws →
      ∃ t, Host.Core.run core n s = .next t ∧ t.pending = ws ∧ t.sf = f^[n] s.sf ∧ t.rf = s.rf := by
  intro n
  induction n with
  | zero => exact fun s hp => ⟨s, rfl, hp, rfl, rfl⟩
  | succ n ih =>
    intro s hp
    obtain ⟨r, he⟩ := hexec { s with pending := List.replicate n w ++ ws }
    obtain ⟨t, hrun, ht⟩ :=
      ih { s with sf := f s.sf, pending := List.replicate n w ++ ws, responses := s.responses ++ [r] } rfl
    exact ⟨t, (run_succ_of_step ((step_instr hp hd).trans he) n).trans hrun, ht⟩

/-- Eight increments of N(S) come round, bit 0 being cleared. -/
theorem incSS_iterate_eight (v : Byte) : incSS^[8] v = v &&& 0xFE := by
  revert v; decide

/-- Eight increments of N(R) come round, bits 4 and 0 being set. -/
theorem getRR_iterate_eight (v : Byte) : (fun v => incRR (v ||| 1))^[8] v = v ||| 0x11 := by
  revert v; decide

/-- Settles O45: both runs apply an increment of a 3-bit field eight times. -/
theorem eightFramesCloseTheCycle : Obligations.EightFramesCloseTheCycle := by
  intro s ws
  refine ⟨fun hp => ?_, fun hp => ?_⟩
  · have hrun := run_replicate (f := incSS) (decodeOfEncode (.nextSend false)) (fun s => ⟨_, exec_nextSend false s⟩)
      ws 8 s hp
    rwa [incSS_iterate_eight] at hrun
  · have hrun := run_replicate (f := fun v => incRR (v ||| 1)) (decodeOfEncode .getRR) (fun s => ⟨_, exec_getRR s⟩)
      ws 8 s hp
    rwa [getRR_iterate_eight] at hrun

/-- The parity of the `SF` a generating command leaves: odd after GET_RR and GET_KA, even after NEXT_SEND. -/
theorem nextSF_parity_of_generator {i : Instr}
    (hi : i = .nextSend true ∨ i = .nextSend false ∨ i = .getRR ∨ i = .getKA) (s : State) :
    (nextSF i s)[0] = decide (i = .getRR ∨ i = .getKA) := by
  obtain rfl | rfl | rfl | rfl := hi <;> simp [nextSF]

/-- Settles O47: a generating command leaves `RF` alone and an `SF` whose parity decides the expected byte. -/
theorem generatingBeforeCheckingDecides : Obligations.GeneratingBeforeCheckingDecides := by
  intro s i b hb hk hi
  have hrf : nextRF i s = s.rf := by obtain rfl | rfl | rfl | rfl := hi <;> rfl
  have hparity := nextSF_parity_of_generator hi s
  refine ⟨_, _, _, exec_eq_after i s, exec_eq_after (.check b) _, rfl, ?_⟩
  have hacc : (packResponse (answer (.check b) (after i s)))[8] = (checkResponse b (after i s)).acc := packResponse_acc _
  rw [hacc, checkResponse_acc_of_i (s := after i s) hb hk, after_sf, after_rf, hrf]
  split
  · next hodd => rw [expected_of_odd (by simpa [hodd] using hparity)]
  · next heven => rw [expected_of_even (by simpa [heven] using hparity)]

/-- CHECK of the expected byte is a match, whatever the bypass. -/
theorem exec_check_expected (s : State) :
    exec (.check (expected s.sf s.rf)) s = .next { s with
      rf := expected s.sf s.rf, responses := s.responses ++ [0x4100 ||| (expected s.sf s.rf).setWidth 16] } :=
  checkIFrameMatch s _ (expected_parity s.sf s.rf) rfl

/-- Settles O54: the receiver takes the sent byte, which is the sender's new `SF`, as its `RF`, and its own NEXT_SEND leaves
its `SF` even. -/
theorem pairInStepStaysInStep : Obligations.PairInStepStaysInStep := by
  rintro a b ⟨-, hexp⟩
  have hcheck := exec_check_expected b
  rw [hexp] at hcheck
  exact ⟨_, _, _, incRR (incSS a.sf), exec_nextSend true a, rfl, hcheck, rfl, exec_nextSend true _,
    by simp, expected_of_even (by simp) _⟩

/-- The counters whose next first frame is `0x10`, the byte a fresh Server expects. -/
theorem incRR_incSS_eq_iff (v : Byte) : 0x10 = incRR (incSS v) ↔ v = 0xEE ∨ v = 0xEF ∨ v = 0xFE ∨ v = 0xFF := by
  revert v; decide

/-- Settles O55: a fresh Server has an even `SF` and expects `0x10`. -/
theorem freshPairInStepOnlyForFourValues : Obligations.FreshPairInStepOnlyForFourValues := by
  intro p q k l
  have heven : (State.construct q .server l).sf[0] = false := by
    show (0x1E : Byte)[0] = false
    decide
  have hexpected : expected (State.construct q .server l).sf (State.construct q .server l).rf = 0x10 := by
    show expected 0x1E 0xEE = 0x10
    decide
  rw [InStep, and_iff_right heven, hexpected, construct_sf, initS_client, incRR_incSS_eq_iff]

end Sys2Proof.Machine
end

section
/-! The bytes of a word on the host bus (20_memory.md R24). -/

namespace Sys2Proof.Machine

/-- The two bytes of a word carry the word in either order. -/
@[simp] theorem wordOfBytes_wordToBytes (o : WordOrder) (w : Word) : wordOfBytes o (wordToBytes o w) = w := by
  have halves : w.extractLsb' 8 8 ++ w.extractLsb' 0 8 = w :=
    (BitVec.extractLsb'_append_extractLsb'_eq_extractLsb' rfl).trans BitVec.extractLsb'_eq_self
  cases o with
  | lowFirst => exact halves
  | highFirst => exact halves

/-- Settles O56: both directions read the two bytes in the order they were written in. -/
theorem hostWordOrderHasNoEffect : Obligations.HostWordOrderHasNoEffect := by
  intro s w
  refine ⟨by rw [presentBytes, wordOfBytes_wordToBytes], ?_⟩
  simp [responseBytes, Function.comp_def]

end Sys2Proof.Machine
end

section
/-! Reading text: a comment is dropped, words end at a separator, and a byte written `0xNN` is read back (30_encoding.md
R43). -/

namespace Sys2Proof.Machine

/-- A text with no separator and no comment sign, as every mnemonic and operand is. -/
def isWord (u : List Char) : Bool :=
  !u.isEmpty && u.all (fun c => !isSeparator c && c != ';')

/-- The three conditions of a word. -/
theorem isWord_iff (u : List Char) :
    isWord u = true ↔ u ≠ [] ∧ (∀ c ∈ u, isSeparator c = false) ∧ ';' ∉ u := by
  simp only [isWord, Bool.and_eq_true, List.all_eq_true, Bool.not_eq_true', List.isEmpty_eq_false_iff, bne_iff_ne,
    forall_and]
  exact Iff.rfl.and (Iff.rfl.and ⟨fun h hmem => h _ hmem rfl, fun h c hc => ne_of_mem_of_not_mem hc h⟩)

/-- A space before a comment, and the comment, are dropped but for the space. -/
theorem stripComment_append {u : List Char} (hu : ';' ∉ u) (comment : List Char) :
    stripComment (u ++ [' ', ';'] ++ comment) = u ++ [' '] := by
  have hkeep : ∀ c ∈ u, (c != ';') = true := fun c hc => by
    simpa using ne_of_mem_of_not_mem hc hu
  rw [stripComment, List.append_assoc, List.takeWhile_append_of_pos hkeep]
  rfl

/-- A text without a comment is kept whole. -/
theorem stripComment_of_not_mem {u : List Char} (hu : ';' ∉ u) : stripComment u = u := by
  rw [stripComment, List.takeWhile_eq_self_iff]
  exact fun c hc => by simpa using ne_of_mem_of_not_mem hc hu

/-- One character of a line read from its end, as `splitWords` does: what `acc` holds is the word being read and the words
read. -/
def readChar (c : Char) (acc : List Char × List (List Char)) : List Char × List (List Char) :=
  if isSeparator c then ([], closeWord acc) else (c :: acc.1, acc.2)

/-- `splitWords` in terms of `readChar`. -/
theorem splitWords_eq (line : List Char) : splitWords line = closeWord (line.foldr readChar ([], [])) := rfl

/-- Characters that are no separators go to the word being read. -/
theorem foldr_readChar_of_word {u : List Char} (hu : ∀ c ∈ u, isSeparator c = false)
    (acc : List Char × List (List Char)) : u.foldr readChar acc = (u ++ acc.1, acc.2) := by
  induction u with
  | nil => rfl
  | cons c u ih =>
    rw [List.forall_mem_cons] at hu
    simp [readChar, ih hu.right, hu.left]

/-- A word at the end of a line. -/
theorem splitWords_word {u : List Char} (hu : isWord u = true) : splitWords u = [u] := by
  obtain ⟨hne, hsep, -⟩ := (isWord_iff u).1 hu
  simp [splitWords_eq, foldr_readChar_of_word hsep, closeWord, hne]

/-- A word before a space. -/
theorem splitWords_word_space {u : List Char} (hu : isWord u = true) (rest : List Char) :
    splitWords (u ++ ' ' :: rest) = u :: splitWords rest := by
  obtain ⟨hne, hsep, -⟩ := (isWord_iff u).1 hu
  rw [splitWords_eq, List.foldr_append, foldr_readChar_of_word hsep]
  simp [splitWords_eq, readChar, isSeparator, closeWord, hne]

/-- A line that is one word reads by the word alone, also before a comment. -/
theorem readLine_word {m : List Char} (hm : isWord m = true) (comment : List Char) :
    readLine m = readPlain m ∧ readLine (m ++ [' ', ';'] ++ comment) = readPlain m := by
  obtain ⟨-, -, hsemi⟩ := (isWord_iff m).1 hm
  have hsplit : splitWords (m ++ [' ']) = [m] := splitWords_word_space hm []
  rw [readLine, readLine, stripComment_of_not_mem hsemi, stripComment_append hsemi, splitWords_word hm, hsplit]
  exact ⟨rfl, rfl⟩

/-- A line that is a mnemonic and an operand reads by the two, also before a comment. -/
theorem readLine_two_words {m x : List Char} (hm : isWord m = true) (hx : isWord x = true) (comment : List Char) :
    readLine (m ++ [' '] ++ x) = readWithOperand m x ∧
      readLine (m ++ [' '] ++ x ++ [' ', ';'] ++ comment) = readWithOperand m x := by
  have hsemi : ';' ∉ m ++ [' '] ++ x := by
    obtain ⟨-, -, hm⟩ := (isWord_iff m).1 hm
    obtain ⟨-, -, hx⟩ := (isWord_iff x).1 hx
    simp [hm, hx]
  have hsplit : splitWords (m ++ [' '] ++ x) = [m, x] := by
    rw [List.append_assoc, List.singleton_append, splitWords_word_space hm, splitWords_word hx]
  have hsplit' : splitWords (m ++ [' '] ++ x ++ [' ']) = [m, x] := by
    rw [List.append_assoc, List.append_assoc, List.singleton_append, splitWords_word_space hm, splitWords_word_space hx]
    rfl
  rw [readLine, readLine, stripComment_of_not_mem hsemi, stripComment_append hsemi, hsplit, hsplit']
  exact ⟨rfl, rfl⟩

/-- The text of a byte is a word, the sixteen digits being neither separators nor the comment sign. -/
theorem isWord_writeByte (b : Byte) : isWord (writeByte b) = true := by
  have digit : ∀ n < 16, (!isSeparator (hexDigits.getD n '0') && hexDigits.getD n '0' != ';') = true := by decide
  have high := digit (b.toNat / 16) (by omega)
  have low := digit (b.toNat % 16) (by omega)
  simp only [isWord, writeByte, List.all_cons, high, low]
  rfl

/-- The text of a byte reads as the byte. -/
theorem readByte_writeByte (b : Byte) : readByte (writeByte b) = some b := by
  revert b; decide

/-- A mnemonic with a byte operand reads as the command it makes of the byte. -/
theorem readLine_byteCommand {m : List Char} {make : Byte → Instr} (hm : isWord m = true)
    (hread : readWithOperand m = byteCommand make) (b : Byte) (comment : List Char) :
    readLine (m ++ [' '] ++ writeByte b) = .command (make b) ∧
      readLine (m ++ [' '] ++ writeByte b ++ [' ', ';'] ++ comment) = .command (make b) := by
  have hline := readLine_two_words hm (isWord_writeByte b) comment
  rwa [hread, byteCommand, readByte_writeByte] at hline

/-- Settles O57: each command is one word or two, and the words read as the command. -/
theorem assemblerReadsWhatItWrites : Obligations.AssemblerReadsWhatItWrites := by
  intro i comment
  cases i with
  | check b => exact readLine_byteCommand (by decide) rfl b comment
  | nextSend first =>
    cases first with
    | false => exact readLine_two_words (m := nextSendText) (x := ['0']) (by decide) (by decide) comment
    | true => exact readLine_two_words (m := nextSendText) (x := ['1']) (by decide) (by decide) comment
  | getRR => exact readLine_word (by decide) comment
  | getKA => exact readLine_word (by decide) comment
  | reset => exact readLine_word (by decide) comment
  | incRR v => exact readLine_byteCommand (by decide) rfl v comment
  | incSS v => exact readLine_byteCommand (by decide) rfl v comment

end Sys2Proof.Machine
end
